-- ==== Sys2Proof/Word.lean ====
section
/-! DEFINITION. The words of the Delkar 6208: the byte of the serial link, the 48-bit tick of the local
oscillator (R147) and the 32-bit phase of a synthesiser (R66). -/

namespace Sys2Proof

/-- One byte of the serial link, or one character of a time message. -/
abbrev Byte := BitVec 8

/-- A value of the tick counter: 48 bits, one count a microsecond, wrapping (R147). -/
abbrev Tick := BitVec 48

/-- A phase in accumulator units: one turn is 2^32 (R66). -/
abbrev Phase := BitVec 32

end Sys2Proof
end

