-- ==== Sys2Proof/Machine/Clock.lean ====
section
/-! DEFINITION. Arithmetic on the tick counter and the named roundings. Every difference of two ticks is
taken modulo 2^48 (R147); generator instants are the ticks that are multiples of 20 and input sample instants
those that are multiples of 10 (chapter Conventions, Instants). -/

namespace Sys2Proof

/-- The nearest integer to n / d, an exact half going to the larger (chapter Conventions, Numbers and units). -/
def roundHalfUp (n d : Nat) : Nat := (d + 2 * n) / (2 * d)

/-- The ticks from one tick on to another, modulo 2^48 (R147). -/
def Tick.elapsed (since now : Tick) : Nat := (now - since).toNat

/-- `now` is at or after `due`: the difference lies in the nearer half of the counter's wrap.
DEDUCED from R147: every interval the device measures is far shorter than one wrap. -/
def Tick.reached (due now : Tick) : Bool := Tick.elapsed due now < 2 ^ 47

/-- `a` is earlier than `b`. -/
def Tick.before (a b : Tick) : Bool := !Tick.reached b a

/-- A generator instant. -/
def Tick.isGeneratorInstant (t : Tick) : Bool := t.toNat % 20 = 0

/-- An input sample instant. -/
def Tick.isInputInstant (t : Tick) : Bool := t.toNat % 10 = 0

/-- The first generator instant at or after a tick; the last few ticks of the counter lead to tick 0. -/
def Tick.instantAtOrAfter (t : Tick) : Tick :=
  let up := (t.toNat + 19) / 20 * 20
  if up < 2 ^ 48 then BitVec.ofNat 48 up else 0

/-- The first generator instant after a tick. -/
def Tick.instantAfter (t : Tick) : Tick := Tick.instantAtOrAfter (t + 1)

/-- The generator instants after `last` up to and including `now`. -/
def Tick.instantsBetween (last now : Tick) : Nat :=
  if last.toNat ≤ now.toNat then now.toNat / 20 - last.toNat / 20
  else (2 ^ 48 - 1) / 20 - last.toNat / 20 + (now.toNat / 20 + 1)

/-- A tick lies in the closed range from `low` to `high`. -/
def Tick.within (low high t : Tick) : Bool := Tick.elapsed low t ≤ Tick.elapsed low high

end Sys2Proof
end

