-- ==== Sys2Proof/Config.lean ====
section
/-! DEFINITION. What the manual fixes once for the part: table sizes, ranges and identity; and the one value it
leaves unsaid. -/

namespace Sys2Proof.Config

/-- Entries of the test point table (R1). -/
def pointEntries : Nat := 64
/-- Entries of the state pool (R1). -/
def stateEntries : Nat := 192
/-- Entries of the characteristic table (R1). -/
def curveEntries : Nat := 16
/-- Entries of the run queue (R41). -/
def queueEntries : Nat := 32
/-- The largest amplitude of a voltage channel, in 10 mV (R10). -/
def voltageMaximum : Nat := 30000
/-- The largest amplitude of a current channel, in mA (R10). -/
def currentMaximum : Nat := 32000
/-- The part code that DEVICE_INFO returns (R172). -/
def partCode : Nat := 0x6208
/-- The silicon revision that DEVICE_INFO returns (R172). -/
def siliconRevision : Nat := 1
/-- The longest payload of a frame (R164). -/
def payloadMaximum : Nat := 240
/-- The bytes a request buffer holds (R162). -/
def bufferBytes : Nat := 244
/-- Ticks of a nominal second (R149). -/
def nominalSecond : Nat := 1000000
/-- FREE VALUE: what the four bytes of a time above 4,294,967,295 µs hold in the operated-inputs list (R125, R173).
DESIGN CHOICE (log entry 31; safe). -/
opaque overlongTime : Nat → BitVec 32

end Sys2Proof.Config
end

