-- ==== Sys2Proof/Syntax.lean ====
section
/-! DEFINITION. The commands of the Delkar 6208, one constructor for each row of spec/opcode_table.json.

A request row carries the fields of its payload (chapter Serial Command Port, R171), as numbers: a field out
of range, or an enumerated code that is not in the table, is a value the owning block refuses with BAD_VALUE.
A row that happens on the clock or on a line carries the tick at which it happens. -/

namespace Sys2Proof

/-- The eight channels: V1 to V3 and VX are voltage channels, I1 to I3 and IX current channels. -/
inductive Chan where
  | v1 | v2 | v3 | vx | i1 | i2 | i3 | ix
  deriving DecidableEq, Repr

/-- The ten binary inputs BI1 to BI10. -/
inductive Inp where
  | bi1 | bi2 | bi3 | bi4 | bi5 | bi6 | bi7 | bi8 | bi9 | bi10
  deriving DecidableEq, Repr

/-- One value for each channel. -/
structure PerChannel (α : Type) where
  v1 : α
  v2 : α
  v3 : α
  vx : α
  i1 : α
  i2 : α
  i3 : α
  ix : α
  deriving DecidableEq, Repr

/-- One value for each binary input. -/
structure PerInput (α : Type) where
  bi1 : α
  bi2 : α
  bi3 : α
  bi4 : α
  bi5 : α
  bi6 : α
  bi7 : α
  bi8 : α
  bi9 : α
  bi10 : α
  deriving DecidableEq, Repr

/-- What a state sets for one channel: amplitude in the channel kind's units, angle in 0.01 degree,
frequency in mHz (R10). -/
structure ChannelSetting where
  amplitude : Nat
  angle : Nat
  frequency : Nat
  deriving DecidableEq, Repr

/-- The state content of a request, before its checks (R10, R171). -/
structure RawState where
  settings : PerChannel ChannelSetting
  outputs : Nat
  duration : Nat
  endCondition : Nat
  inception : Nat
  theta : Nat
  deriving DecidableEq, Repr

/-- The curve content of a request, before its checks (R26, R171). -/
structure RawCurve where
  quantity : Nat
  pickup : Nat
  breakpoints : List (Nat × Nat)
  deriving DecidableEq, Repr

/-- The point content of a request, before its checks (R6 to R8, R171). -/
structure RawPoint where
  tag : Nat
  kind : Nat
  faultPosition : Nat
  startMode : Nat
  day : Nat
  second : Nat
  offset : Nat
  monitored : Nat
  combine : Nat
  expectation : Nat
  expectedTime : Nat
  characteristic : Nat
  tolerancePercent : Nat
  toleranceAbsolute : Nat
  varied : Nat
  lower : Nat
  upper : Nat
  resolution : Nat
  maximumShots : Nat
  policy : Nat
  boundary : Nat
  searchPercent : Nat
  searchAbsolute : Nat
  states : List Nat
  deriving DecidableEq, Repr

/-- The lines as first read at tick 0: the fault lines found asserted, bit n − 1 for AFn, and whether PPS was found
high (R177). -/
structure FirstReading where
  faultLines : BitVec 8
  ppsHigh : Bool
  deriving DecidableEq, Repr

/-- The five values of CHAN_SET (R82). -/
structure RawChannelConfig where
  range : Nat
  offThreshold : Nat
  onThreshold : Nat
  qualifying : Nat
  overloadLimit : Nat
  deriving DecidableEq, Repr

/-- The values of INPUT_SET (R110). -/
structure RawInputConfig where
  mode : Nat
  onThreshold : Nat
  offThreshold : Nat
  samples : Nat
  polarity : Nat
  deriving DecidableEq, Repr

/-- The commands: one constructor for each row of spec/opcode_table.json, in its order. -/
inductive Instr where
  /-- Device reset, with the lines as found at tick 0 (R176, R177). -/
  | deviceReset (found : FirstReading)
  /-- A SEND transaction: the whole bytes the host clocks in after the kind byte (R163). -/
  | send (bytes : List Byte)
  /-- A FETCH transaction of `clocked` whole bytes, the kind byte among them (R166). -/
  | fetch (clocked : Nat)
  /-- A STATUS transaction of `clocked` whole bytes, the kind byte among them (R167). -/
  | status (clocked : Nat)
  /-- A transaction whose first byte names no kind, with the number of whole bytes after it (R162). -/
  | unknownKind (first : Byte) (following : Nat)
  | pointNew (edit : Nat) (content : RawPoint)
  | pointSet (handle : Nat) (content : RawPoint)
  | pointGet (handle : Nat)
  | pointFind (tag : Nat)
  | pointList
  | pointDrop (handle : Nat)
  | stateNew (edit : Nat) (content : RawState)
  /-- STATE_LOAD: the entry count the frame carries and its entries, each an edit level and a content (R13). -/
  | stateLoad (count : Nat) (entries : List (Nat × RawState))
  | stateSet (handle : Nat) (content : RawState)
  | stateGet (handle : Nat)
  | stateDrop (handle : Nat)
  | curveNew (edit : Nat) (content : RawCurve)
  | curveSet (handle : Nat) (content : RawCurve)
  | curveGet (handle : Nat)
  | curveDrop (handle : Nat)
  | resultGet (handle : Nat)
  | resultDrop (handle : Nat)
  | queueAdd (handle : Nat)
  | queueFirst (handle : Nat)
  | queueRemove (handle : Nat)
  | queueGet
  | runSetup (restInterval resetWait policy : Nat)
  | runHold
  | runRelease
  /-- SHOT_ABORT, judged at the generator instant named (R62). -/
  | shotAbort (instant : Tick)
  /-- RUN_RESET, taking effect at the generator instant named (R64). -/
  | runReset (instant : Tick)
  | chanSet (channel : Nat) (config : RawChannelConfig)
  | chanGet (channel : Nat)
  | chanUnmute (channel : Nat)
  | chanService (channel : Nat)
  | inputSet (input : Nat) (config : RawInputConfig)
  | inputGet (input : Nat)
  | outputIdleSet (mask : Nat)
  | timeSet (window missedLimit holdoverLimit : Nat)
  | timeGet
  | levelStep (level : Nat)
  | deviceInfo
  /-- A sample of one input, by its contact sense line and its wet-voltage code, that disagrees with its state (R99, R100). -/
  | sensedLevelChange (tick : Tick) (input : Inp) (closed : Bool) (volts : BitVec 9)
  /-- The sensed-active sample of one input that completes its run (R99). -/
  | operate (tick : Tick) (input : Inp)
  /-- The sensed-inactive sample of one input that completes its run (R100). -/
  | release (tick : Tick) (input : Inp)
  | amplifierFaultAssertion (tick : Tick) (channel : Chan)
  | faultLineDeassertion (tick : Tick) (channel : Chan)
  /-- The feedback sample of one channel that completes a half-cycle window (R86). -/
  | windowEstimate (tick : Tick) (channel : Chan) (feedback : BitVec 16)
  | shotStart (tick : Tick)
  | stateDurationEnd (tick : Tick)
  | inputStateEnd (tick : Tick)
  | pointOnWaveInception (tick : Tick)
  | resetWaitLimitExpiry (tick : Tick)
  | restEnd (tick : Tick)
  | amplifierAbort (tick : Tick)
  | timeLostAbort (tick : Tick)
  /-- A PPS rising edge captured at the tick named (R148). -/
  | pulse (tick : Tick)
  | acquisitionWindowCloses (tick : Tick)
  | missedEdge (tick : Tick)
  | predictedEdge (tick : Tick)
  | holdoverLimitElapses (tick : Tick)
  /-- The characters that stand on TMSG between a flag and the flag that ends the message, as they arrive (R154). -/
  | timeMessage (tick : Tick) (characters : List Byte)
  /-- A generator instant, with the feedback sample of every channel (R71, R85). -/
  | generatorInstant (tick : Tick) (feedback : PerChannel (BitVec 16))
  /-- An input sample instant: bit n − 1 of `closed` is the contact sense line of input n, and the ten wet-voltage codes (R96, R97). -/
  | inputSample (tick : Tick) (closed : BitVec 10) (volts : PerInput (BitVec 9))
  | framingError (tick : Tick)
  | overlongMessage (tick : Tick)
  deriving DecidableEq, Repr

end Sys2Proof
end

