-- ==== Sys2Proof/Machine/Lines.lean ====
section
/-! DEFINITION. Channels, inputs and masks by number, and the values kept for each of them. A mask's bit
n − 1 stands for number n (R171). -/

namespace Sys2Proof

/-- The channel number, 1 to 8. -/
def Chan.number : Chan → Nat
  | .v1 => 1 | .v2 => 2 | .v3 => 3 | .vx => 4 | .i1 => 5 | .i2 => 6 | .i3 => 7 | .ix => 8

/-- The channel of a number; none for 0 or above 8. -/
def Chan.ofNumber : Nat → Option Chan
  | 1 => some .v1 | 2 => some .v2 | 3 => some .v3 | 4 => some .vx
  | 5 => some .i1 | 6 => some .i2 | 7 => some .i3 | 8 => some .ix
  | _ => none

/-- Channels 1 to 4 are voltage channels. -/
def Chan.isVoltage (c : Chan) : Bool := c.number ≤ 4

/-- The eight channels in order of number. -/
def Chan.all : List Chan := [.v1, .v2, .v3, .vx, .i1, .i2, .i3, .ix]

/-- Membership in a channel mask. -/
def Chan.isIn (c : Chan) (mask : BitVec 8) : Bool := mask.getLsbD (c.number - 1)

/-- The input number, 1 to 10. -/
def Inp.number : Inp → Nat
  | .bi1 => 1 | .bi2 => 2 | .bi3 => 3 | .bi4 => 4 | .bi5 => 5
  | .bi6 => 6 | .bi7 => 7 | .bi8 => 8 | .bi9 => 9 | .bi10 => 10

/-- The input of a number; none for 0 or above 10. -/
def Inp.ofNumber : Nat → Option Inp
  | 1 => some .bi1 | 2 => some .bi2 | 3 => some .bi3 | 4 => some .bi4 | 5 => some .bi5
  | 6 => some .bi6 | 7 => some .bi7 | 8 => some .bi8 | 9 => some .bi9 | 10 => some .bi10
  | _ => none

/-- The ten inputs in order of number. -/
def Inp.all : List Inp := [.bi1, .bi2, .bi3, .bi4, .bi5, .bi6, .bi7, .bi8, .bi9, .bi10]

/-- Membership in an input mask. -/
def Inp.isIn (n : Inp) (mask : BitVec 10) : Bool := mask.getLsbD (n.number - 1)

/-- The value kept for a channel. -/
def PerChannel.get {α : Type} (p : PerChannel α) : Chan → α
  | .v1 => p.v1 | .v2 => p.v2 | .v3 => p.v3 | .vx => p.vx
  | .i1 => p.i1 | .i2 => p.i2 | .i3 => p.i3 | .ix => p.ix

/-- The value made for each channel. -/
def PerChannel.of {α : Type} (f : Chan → α) : PerChannel α :=
  { v1 := f .v1, v2 := f .v2, v3 := f .v3, vx := f .vx, i1 := f .i1, i2 := f .i2, i3 := f .i3, ix := f .ix }

/-- The same value for every channel of a kind. -/
def PerChannel.byKind {α : Type} (voltage current : α) : PerChannel α :=
  { v1 := voltage, v2 := voltage, v3 := voltage, vx := voltage
    i1 := current, i2 := current, i3 := current, ix := current }

/-- Change one channel's value. -/
def PerChannel.update {α : Type} (p : PerChannel α) (c : Chan) (f : α → α) : PerChannel α :=
  match c with
  | .v1 => { p with v1 := f p.v1 }
  | .v2 => { p with v2 := f p.v2 }
  | .v3 => { p with v3 := f p.v3 }
  | .vx => { p with vx := f p.vx }
  | .i1 => { p with i1 := f p.i1 }
  | .i2 => { p with i2 := f p.i2 }
  | .i3 => { p with i3 := f p.i3 }
  | .ix => { p with ix := f p.ix }

/-- Change every channel's value. -/
def PerChannel.map {α β : Type} (f : α → β) (p : PerChannel α) : PerChannel β :=
  PerChannel.of fun c => f (p.get c)

/-- The values in order of channel number. -/
def PerChannel.toList {α : Type} (p : PerChannel α) : List α := Chan.all.map p.get

/-- The value kept for an input. -/
def PerInput.get {α : Type} (p : PerInput α) : Inp → α
  | .bi1 => p.bi1 | .bi2 => p.bi2 | .bi3 => p.bi3 | .bi4 => p.bi4 | .bi5 => p.bi5
  | .bi6 => p.bi6 | .bi7 => p.bi7 | .bi8 => p.bi8 | .bi9 => p.bi9 | .bi10 => p.bi10

/-- The value made for each input. -/
def PerInput.of {α : Type} (f : Inp → α) : PerInput α :=
  { bi1 := f .bi1, bi2 := f .bi2, bi3 := f .bi3, bi4 := f .bi4, bi5 := f .bi5
    bi6 := f .bi6, bi7 := f .bi7, bi8 := f .bi8, bi9 := f .bi9, bi10 := f .bi10 }

/-- Change one input's value. -/
def PerInput.update {α : Type} (p : PerInput α) (n : Inp) (f : α → α) : PerInput α :=
  match n with
  | .bi1 => { p with bi1 := f p.bi1 }
  | .bi2 => { p with bi2 := f p.bi2 }
  | .bi3 => { p with bi3 := f p.bi3 }
  | .bi4 => { p with bi4 := f p.bi4 }
  | .bi5 => { p with bi5 := f p.bi5 }
  | .bi6 => { p with bi6 := f p.bi6 }
  | .bi7 => { p with bi7 := f p.bi7 }
  | .bi8 => { p with bi8 := f p.bi8 }
  | .bi9 => { p with bi9 := f p.bi9 }
  | .bi10 => { p with bi10 := f p.bi10 }

/-- Change every input's value. -/
def PerInput.map {α β : Type} (f : α → β) (p : PerInput α) : PerInput β :=
  PerInput.of fun n => f (p.get n)

/-- The largest amplitude a channel's kind can be set to (R10). -/
def Chan.kindMaximum (c : Chan) : Nat :=
  if c.isVoltage then Config.voltageMaximum else Config.currentMaximum

end Sys2Proof
end

