-- ==== Sys2Proof/Machine/State.lean ====
section
/-! DEFINITION. The state of the Delkar 6208, block by block, as plain data; its state after device reset; and
the reasons a step could stop. -/

namespace Sys2Proof.Machine

/-! ## Records of the Plan Store -/

/-- When a state ends (R56, R57). -/
inductive EndCondition where
  | time | input
  deriving DecidableEq, Repr

/-- How a state is entered at the fault position (R77); θ in 0.01 degree. -/
inductive Inception where
  | continuous
  | angle (theta : Nat)
  deriving DecidableEq, Repr

/-- The content of a state record (R10). Bit n − 1 of `outputs` closes BO n. -/
structure StateContent where
  settings : PerChannel ChannelSetting
  outputs : BitVec 4
  duration : Nat
  endCondition : EndCondition
  inception : Inception
  deriving DecidableEq, Repr

/-- A present state record (R1, R10, R14). -/
structure StateRecord where
  editLevel : Nat
  content : StateContent
  refCount : Nat
  deriving DecidableEq, Repr

/-- The current a characteristic measures (R25). -/
inductive Quantity where
  | phaseMax | i1 | i2 | i3 | ix
  deriving DecidableEq, Repr

/-- The content of a characteristic (R25, R26): breakpoints are pairs (M_k, t_k). -/
structure CurveContent where
  quantity : Quantity
  pickup : Nat
  breakpoints : List (Nat × Nat)
  deriving DecidableEq, Repr

/-- A present characteristic (R11, R14, R25). -/
structure Characteristic where
  editLevel : Nat
  content : CurveContent
  revision : Nat
  refCount : Nat
  deriving DecidableEq, Repr

/-- How a test point is started (R6). -/
inductive StartMode where
  | immediate
  | atTime (day second offset : Nat)
  deriving DecidableEq, Repr

/-- How the monitored inputs combine into the trip criterion (R106, R107). -/
inductive Combine where
  | any | all
  deriving DecidableEq, Repr

/-- What a SHOT test point expects (R7). -/
inductive Expectation where
  | none
  | fixed (time : Nat)
  | curve (handle : Nat)
  | noTrip
  deriving DecidableEq, Repr

/-- What a search does when a marked entry waits at the end of a REST (R59, R142). -/
inductive Policy where
  | suspend | abort
  deriving DecidableEq, Repr

/-- The search parameters and search expectation of a SEARCH test point (R8). -/
structure SearchParams where
  varied : BitVec 8
  lower : Nat
  upper : Nat
  resolution : Nat
  maximumShots : Nat
  policy : Policy
  boundary : Nat
  tolerancePercent : Nat
  toleranceAbsolute : Nat
  deriving DecidableEq, Repr

/-- The kind of a test point with the fields that only that kind holds (R7, R8). -/
inductive Kind where
  | shot (expectation : Expectation) (tolerancePercent toleranceAbsolute : Nat)
  | search (params : SearchParams)
  deriving DecidableEq, Repr

/-- The content of a test point (R6 to R8). Bit n − 1 of `monitored` stands for BI n. -/
structure PointContent where
  tag : Nat
  kind : Kind
  states : List Nat
  faultPosition : Nat
  start : StartMode
  monitored : BitVec 10
  combine : Combine
  deriving DecidableEq, Repr

/-- The status of a test point (R47). -/
inductive Status where
  | idle | queued | active | suspended
  deriving DecidableEq, Repr

/-- The kind of the next shot of a search (R133). -/
inductive SearchPhase where
  | bracketHigh | bracketLow | bisect
  deriving DecidableEq, Repr

/-- The search context (R133). -/
structure SearchContext where
  phase : SearchPhase
  lower : Nat
  upper : Nat
  shotsUsed : Nat
  deriving DecidableEq, Repr

/-! ## Results -/

/-- The outcome of a shot or a search (R123). -/
inductive Verdict where
  | pass | failEarly | failLate | failNoTrip | failUnwanted | inconclusive | aborted | recorded
  | failHigh | failLow | noBracket | notConverged
  deriving DecidableEq, Repr

/-- Why a run was aborted (R61). -/
inductive AbortReason where
  | command | runReset | amplifier | notReset | channelUnfit | timeLost | lateStart | tooFar
  | preempted | removed
  deriving DecidableEq, Repr

/-- The flags of a result (R123). -/
structure ResultFlags where
  prefault : Bool
  clamped : Bool
  compliance : Bool
  shortWindow : Bool
  timeHoldover : Bool
  stale : Bool
  unread : Bool
  deriving DecidableEq, Repr

/-- An expected time with its band (R32). -/
structure Expected where
  time : Nat
  low : Nat
  high : Nat
  deriving DecidableEq, Repr

/-- One entry of the operated-inputs list (R125). -/
structure OperatedEntry where
  input : Inp
  operate : Nat
  release : Option Nat
  deriving DecidableEq, Repr

/-- The search fields of a result (R139). -/
structure SearchFields where
  lower : Nat
  upper : Nat
  boundary : Option Nat
  shotsUsed : Nat
  deriving DecidableEq, Repr

/-- A result record (R123). -/
structure Result where
  verdict : Verdict
  reason : Option AbortReason
  flags : ResultFlags
  measured : Option Nat
  expected : Option Expected
  multiple : Option Nat
  revision : Option Nat
  skew : Option Nat
  runCount : Nat
  operated : List OperatedEntry
  search : Option SearchFields
  deriving DecidableEq, Repr

/-- A present test point (chapter Test Plan Records). -/
structure TestPoint where
  editLevel : Nat
  content : PointContent
  status : Status
  context : Option SearchContext
  result : Option Result
  deriving DecidableEq, Repr

/-- A table of records: the present entries, each with its handle, handles strictly rising. A handle that is
not listed is absent (R1). -/
abbrev Table (α : Type) := List (Nat × α)

/-! ## The Run Controller -/

/-- Whether a scheduled start may be made in HOLDOVER (R60). -/
inductive SchedulePolicy where
  | lockedOnly | holdoverOk
  deriving DecidableEq, Repr

/-- The run setup (R60): times in ms. -/
structure RunSetup where
  restInterval : Nat
  resetWait : Nat
  policy : SchedulePolicy
  deriving DecidableEq, Repr

/-- One entry of the run queue (R41). -/
structure QueueEntry where
  handle : Nat
  marked : Bool
  deriving DecidableEq, Repr

/-- Where a shot stands while PLAYING (R54, R55, R77). Positions count from 1. -/
inductive Stage where
  /-- Before the start instant, which is due at the tick named. -/
  | ready (due : Tick)
  /-- After the start instant, at rest: the first state is the fault state and its entry is deferred (R78). -/
  | deferredFirst
  /-- A state of the list is in play since its entry tick. -/
  | inPlay (position : Nat) (entry : Tick)
  /-- That state has ended and stays in play while the fault state's entry is deferred (R77). -/
  | deferred (position : Nat)
  deriving DecidableEq, Repr

/-- PLAYING: the stage, and the tick of an amplifier fault reported and not yet acted on (R63, R90). -/
structure Play where
  stage : Stage
  fault : Option Tick
  deriving DecidableEq, Repr

/-- START_WAIT: the policy that governs it, the start tick and start skew once computed, and the tick of a
report that gives TIME_LOST (R53, R160, R161). -/
structure StartWait where
  policy : SchedulePolicy
  start : Option (Tick × Nat)
  lost : Option Tick
  deriving DecidableEq, Repr

/-- The run state with what each state holds (R48 to R59). -/
inductive RunState where
  | idle
  /-- Passed through within the step that takes a head or continues a search; never stands between steps (R46). -/
  | precheck
  /-- RESET_WAIT with its entry tick and the limit in ms read on entry (R52). -/
  | resetWait (since : Tick) (limit : Nat)
  | startWait (wait : StartWait)
  | playing (play : Play)
  /-- REST with its entry tick, the interval in ms read on entry, whether that interval has ended with an ACTIVE
  search held back by the hold flag (R59), and the tick of an amplifier fault reported in the search shot that has
  just ended and not yet acted on (R144). -/
  | rest (since : Tick) (interval : Nat) (ended : Bool) (fault : Option Tick)
  deriving DecidableEq, Repr

/-- The Run Controller. -/
structure RunController where
  queue : List QueueEntry
  state : RunState
  active : Option Nat
  hold : Bool
  setup : RunSetup
  deriving DecidableEq, Repr

/-! ## The Waveform Generator -/

/-- One channel's synthesiser (R66), with the drive sample last delivered (R70, R71). -/
structure Synth where
  accumulator : Phase
  step : Phase
  frequency : Nat
  offset : Phase
  applied : Nat
  peak : Nat
  clampNote : Option Tick
  drive : BitVec 16
  deriving DecidableEq, Repr

/-- The copy of the state in play (R72). -/
structure Snapshot where
  handle : Nat
  content : StateContent
  deriving DecidableEq, Repr

/-- The Waveform Generator: synthesisers, snapshot, binary output levels, and the generator instant up to
which the accumulators have been stepped with V1's value before that instant's step (R77). -/
structure Generator where
  synths : PerChannel Synth
  snapshot : Option Snapshot
  outputs : BitVec 4
  instant : Option Tick
  v1Before : Phase
  deriving DecidableEq, Repr

/-! ## The Output Supervisor -/

/-- The configuration of a channel (R81, R82): thresholds per mille, Qc in half-cycles. -/
structure ChannelConfig where
  range : Nat
  offThreshold : Nat
  onThreshold : Nat
  qualifying : Nat
  overloadLimit : Nat
  deriving DecidableEq, Repr

/-- A half-cycle window of a supervised channel (R85): whether it is the first after an entry, the samples
taken and the sum of their absolute values. -/
structure Window where
  settling : Bool
  taken : Nat
  sum : Nat
  deriving DecidableEq, Repr

/-- A channel record (R81). -/
structure Channel where
  config : ChannelConfig
  pending : Option ChannelConfig
  mute : Bool
  faultLine : Bool
  /-- The input sample instant of the fault line's reading that gave `faultLine`; tick 0 after device reset (R177). -/
  lineReadAt : Tick
  lost : Bool
  qualifying : Nat
  overloads : Nat
  losses : Nat
  fit : Bool
  window : Option Window
  /-- The generator instant of the last feedback sample taken. -/
  fedAt : Option Tick
  deriving DecidableEq, Repr

/-! ## The Binary Input Unit -/

/-- DRY, or WET with its on and off thresholds in volts (R95). -/
inductive InputMode where
  | dry
  | wet (on off : Nat)
  deriving DecidableEq, Repr

/-- The configuration of an input (R110). -/
structure InputConfig where
  mode : InputMode
  samples : Nat
  inverted : Bool
  deriving DecidableEq, Repr

/-- The qualification state, with the run count and candidate tick of a run being counted (R99, R100). -/
inductive Qualification where
  | inactive
  | pendingOn (run : Nat) (candidate : Tick)
  | active
  | pendingOff (run : Nat) (candidate : Tick)
  deriving DecidableEq, Repr

/-- An entry of the per-shot operation table (R102). -/
structure TableEntry where
  operate : Option Tick
  standing : Bool
  release : Option Tick
  bounces : Nat
  deriving DecidableEq, Repr

/-- An input record (R95). -/
structure Input where
  config : InputConfig
  pending : Option InputConfig
  wetMemory : Bool
  qualification : Qualification
  entry : TableEntry
  /-- The sensed level of the latest sample (R112). -/
  sensed : Bool
  /-- The input sample instant of the latest sample. -/
  sampledAt : Option Tick
  deriving DecidableEq, Repr

/-! ## The Timebase -/

/-- The lock state (R149 to R151). -/
inductive Lock where
  | free | acquiring | locked | holdover
  deriving DecidableEq, Repr

/-- A second named: day, second of day, quality (R153). -/
structure Label where
  day : Nat
  second : Nat
  quality : Nat
  deriving DecidableEq, Repr

/-- What the reference edge is: a pulse, a missed edge, or a predicted edge (R148). -/
inductive EdgeKind where
  | pulse | missed | predicted
  deriving DecidableEq, Repr

/-- A reading of the PPS line: its level and the tick it was read at (R148, R177). -/
structure LineReading where
  high : Bool
  readAt : Tick
  deriving DecidableEq, Repr

/-- The TMSG receiver between steps (R154): no flag seen since device reset; a message begun by a flag; or
characters ignored until the next flag. -/
inductive Receiver where
  | unflagged | message | ignoring
  deriving DecidableEq, Repr

/-- The Timebase (chapter Time Reference and Scheduled Starts); the tick counter is `State.tick`. -/
structure Timebase where
  lock : Lock
  window : Nat
  missedLimit : Nat
  holdoverLimit : Nat
  acquisition : Nat
  reference : Option Tick
  referenceKind : EdgeKind
  /-- The reference edge is a predicted edge whose window closed before W was replaced (R156). -/
  referenceClosed : Bool
  history : List Nat
  missed : Nat
  holdoverEntry : Option Tick
  label : Option Label
  held : Option Label
  timeStep : Bool
  spurious : Nat
  discards : Nat
  receiver : Receiver
  /-- The latest reading of PPS that is known: at tick 0 after device reset, then the captured rises (R148, R177). -/
  pps : LineReading
  deriving DecidableEq, Repr

/-! ## The Assessment Unit -/

/-- The expectation working values formed at inception (R35). -/
inductive Working where
  | unjudged
  | noTrip
  | fixed (expected : Expected)
  | curveBelow (multiple revision : Nat)
  | curve (multiple revision : Nat) (expected : Expected)
  deriving DecidableEq, Repr

/-- The trip criterion once qualified (R106 to R108). -/
structure Criterion where
  qualifying : Tick
  timestamp : Tick
  deriving DecidableEq, Repr

/-- A compliance change handed over (R87). -/
structure ComplianceChange where
  channel : Chan
  lost : Bool
  decision : Tick
  deriving DecidableEq, Repr

/-- A clamp note handed over at its state's end (R74). -/
structure ClampNote where
  channel : Chan
  entry : Tick
  ended : Tick
  deriving DecidableEq, Repr

/-- The entry of a state in the shot: its tick and the amplitudes its snapshot set (R120). -/
structure StateEntry where
  entry : Tick
  amplitudes : PerChannel Nat
  deriving DecidableEq, Repr

/-- The shot record (R115), with the start instant, the entries of the states and the instant at which the
state at the fault position ended (R135). -/
structure ShotRecord where
  started : Tick
  inception : Option Tick
  complianceAtInception : Option (PerChannel Bool)
  changes : List ComplianceChange
  clampNotes : List ClampNote
  criterion : Option Criterion
  startConditions : Option (Lock × Nat)
  working : Option Working
  entries : List StateEntry
  faultEnd : Option Tick
  deriving DecidableEq, Repr

/-! ## The Serial Command Port -/

/-- The link state (R162). -/
inductive Link where
  | ready | working | answer
  deriving DecidableEq, Repr

/-- The Serial Command Port: link state, buffers, the event causes of R168, the statuses of R169, the request
dispatched and not yet executed, and the bytes shifted out in the last transaction. -/
structure Port where
  link : Link
  request : List Byte
  response : List Byte
  queueEmpty : Bool
  time : Bool
  channel : Bool
  linkCause : Bool
  refused : Bool
  frameCut : Bool
  inHand : Option Instr
  shifted : List Byte
  deriving DecidableEq, Repr

/-! ## The whole machine -/

/-- The state of the part. -/
structure State where
  tick : Tick
  level : Nat
  points : Table TestPoint
  states : Table StateRecord
  curves : Table Characteristic
  run : RunController
  gen : Generator
  channels : PerChannel Channel
  inputs : PerInput Input
  idleOutputs : BitVec 4
  time : Timebase
  shot : ShotRecord
  port : Port
  pending : List Instr
  deriving DecidableEq, Repr

/-- Why the machine would stop with a fault: no command of this part stops it, so no constructor is raised.
Every condition the manual names is answered by a result code, an attention cause or an aborted result. -/
inductive Fault where
  deriving DecidableEq, Repr

/-- Why a command would have no meaning. -/
inductive Refusal where
  /-- Raised by an arm of `exec` whose command has no meaning yet; no arm raises it. Safe: the machine stops. -/
  | notModelled (mnemonic : String)
  deriving DecidableEq, Repr

/-! ## Values after device reset -/

/-- A synthesiser after device reset: 50 Hz, silent (R66). -/
def Synth.reset : Synth :=
  { accumulator := 0, step := 4294967, frequency := 50000, offset := 0, applied := 0, peak := 0
    clampNote := none, drive := 0 }

/-- The generator after device reset (R66). -/
def Generator.reset : Generator :=
  { synths := PerChannel.byKind Synth.reset Synth.reset, snapshot := none, outputs := 0, instant := none
    v1Before := 0 }

/-- A channel record after device reset, its fault line deasserted (R81). -/
def Channel.reset (range : Nat) : Channel :=
  { config := { range := range, offThreshold := 900, onThreshold := 950, qualifying := 2, overloadLimit := 3 }
    pending := none, mute := false, faultLine := false, lineReadAt := 0, lost := false, qualifying := 0
    overloads := 0, losses := 0, fit := true, window := none, fedAt := none }

/-- The eight channel records after device reset: 150 V and 8 A ranges (R81). -/
def channelsReset : PerChannel Channel :=
  PerChannel.byKind (Channel.reset 15000) (Channel.reset 8000)

/-- A clear entry of the operation table (R102). -/
def TableEntry.clear : TableEntry := { operate := none, standing := false, release := none, bounces := 0 }

/-- An input record after device reset (R95). DESIGN CHOICE: the sensed level of the latest sample is inactive
before any sample. -/
def Input.reset : Input :=
  { config := { mode := .dry, samples := 20, inverted := false }, pending := none, wetMemory := false
    qualification := .inactive, entry := TableEntry.clear, sensed := false, sampledAt := none }

/-- The Timebase after device reset, PPS found low at tick 0 (R147, R177). -/
def Timebase.reset : Timebase :=
  { lock := .free, window := 200, missedLimit := 4, holdoverLimit := 60, acquisition := 0, reference := none
    referenceKind := .pulse, referenceClosed := false, history := [], missed := 0, holdoverEntry := none
    label := none, held := none, timeStep := false, spurious := 0, discards := 0, receiver := .unflagged
    pps := { high := false, readAt := 0 } }

/-- The shot record emptied (R115). -/
def ShotRecord.empty : ShotRecord :=
  { started := 0, inception := none, complianceAtInception := none, changes := [], clampNotes := []
    criterion := none, startConditions := none, working := none, entries := [], faultEnd := none }

/-- The port after device reset (R162). -/
def Port.reset : Port :=
  { link := .ready, request := [], response := [], queueEmpty := false, time := false, channel := false
    linkCause := false, refused := false, frameCut := false, inHand := none, shifted := [] }

/-- The Run Controller after device reset (R65). -/
def RunController.reset : RunController :=
  { queue := [], state := .idle, active := none, hold := false
    setup := { restInterval := 1000, resetWait := 5000, policy := .lockedOnly } }

/-- The part right after device reset, every fault line found deasserted and PPS found low at tick 0.
DESIGN CHOICE (log entry 24; unsafe): those levels. -/
def State.reset : State :=
  { tick := 0, level := 0, points := [], states := [], curves := [], run := RunController.reset
    gen := Generator.reset, channels := channelsReset
    inputs := PerInput.of fun _ => Input.reset
    idleOutputs := 0, time := Timebase.reset, shot := ShotRecord.empty, port := Port.reset, pending := [] }

end Sys2Proof.Machine
end

