-- ==== Sys2Proof/Machine/Arithmetic.lean ====
section
/-! DEFINITION. The integer arithmetic of the part, each formula as its rule names it. -/

namespace Sys2Proof.Machine

/-! ## Waveforms -/

/-- The phase step of a frequency in mHz (R67). -/
def phaseStep (frequency : Nat) : Phase := BitVec.ofNat 32 (roundHalfUp (2 ^ 32 * frequency) 50000000)

/-- An angle in 0.01 degree in accumulator units (R68). -/
def phaseOf (angle : Nat) : Phase := BitVec.ofNat 32 (roundHalfUp (2 ^ 32 * angle) 36000)

/-- The peak code of an applied amplitude on a range (R69). -/
def peakCode (applied range : Nat) : Nat := roundHalfUp (32767 * applied) range

/-- The sample of a peak code at an instantaneous angle (R70). -/
def sampleAt (peak : Nat) (angle : Phase) : Int :=
  let entry := sine (angle >>> 20).toNat
  let magnitude : Int := roundHalfUp (peak * entry.natAbs) 65536
  if entry < 0 then -magnitude else magnitude

/-- The target lies on the arc from just beyond `before` up to and including `after`, going forward (R77). -/
def onArc (before after target : Phase) : Bool :=
  0 < (target - before).toNat && (target - before).toNat ≤ (after - before).toNat

/-! ## Level estimates -/

/-- The feedback samples of a half-cycle window at a frequency in mHz (R85). -/
def windowSamples (frequency : Nat) : Nat := roundHalfUp 50000000 (2 * frequency)

/-- The level estimate of a window of `samples` samples whose absolute values sum to `sum` (R86). -/
def levelEstimate (sum range samples : Nat) : Nat :=
  roundHalfUp (11107 * (sum * range)) (10000 * 23170 * samples)

/-- The ratio of an estimate to the applied amplitude, per mille, rounded down (R86). -/
def levelRatio (estimate applied : Nat) : Nat := 1000 * estimate / applied

/-! ## Expectations -/

/-- The set current a characteristic's quantity reads from a state (R27). -/
def quantityValue (q : Quantity) (c : StateContent) : Nat :=
  match q with
  | .phaseMax => max c.settings.i1.amplitude (max c.settings.i2.amplitude c.settings.i3.amplitude)
  | .i1 => c.settings.i1.amplitude
  | .i2 => c.settings.i2.amplitude
  | .i3 => c.settings.i3.amplitude
  | .ix => c.settings.ix.amplitude

/-- The multiple of pickup (R28). -/
def multipleOf (value pickup : Nat) : Nat := min (1000 * value / pickup) 65535

/-- The expected time of a multiple on a breakpoint list: interpolated between breakpoints, the last
breakpoint's time at or beyond it, none below the first (R29, R30, R31). -/
def expectedTime : List (Nat × Nat) → Nat → Option Nat
  | [], _ => none
  | [(m, t)], multiple => if multiple < m then none else some t
  | (m, t) :: (m', t') :: rest, multiple =>
    if multiple < m then none
    else if multiple < m' then some (t - roundHalfUp ((t - t') * (multiple - m)) (m' - m))
    else expectedTime ((m', t') :: rest) multiple

/-- The half-width of a band (R32, R39, R138). -/
def halfWidth (centre percent absolute : Nat) : Nat := max absolute (centre * percent / 1000)

/-- The band around an expected time (R32). -/
def bandAround (time percent absolute : Nat) : Expected :=
  let hw := halfWidth time percent absolute
  { time := time, low := time - hw, high := time + hw }

/-! ## Searches -/

/-- The trial amplitude a search context gives (R134). -/
def trialOf (c : SearchContext) : Nat :=
  match c.phase with
  | .bracketHigh => c.upper
  | .bracketLow => c.lower
  | .bisect => c.lower + (c.upper - c.lower) / 2

/-! ## Time -/

/-- The mean of the interval history, rounded half up; absent while it is empty (R152). -/
def meanInterval (history : List Nat) : Option Nat :=
  if history = [] then none else some (roundHalfUp history.sum history.length)

/-- The second count of a day and second of day (R159). -/
def secondCount (day second : Nat) : Nat := 86400 * day + second

/-- The lead of a start time over a label: their difference reduced into −2,831,155,200 to 2,831,155,199 (R159). -/
def leadOver (start label : Nat) : Int :=
  ((2831155200 + ((start : Int) - label)) % 5662310400) - 2831155200

/-- One second later, quality kept (R153). -/
def Label.next (l : Label) : Label :=
  if l.second = 86399 then { l with day := (l.day + 1) % 65536, second := 0 }
  else { l with second := l.second + 1 }

/-- An offset in µs converted to ticks by the measured interval (R161). -/
def convertedOffset (offset interval : Nat) : Nat := roundHalfUp (offset * interval) 1000000

/-- A count that saturates (chapter Conventions, Numbers and units). -/
def saturate (limit n : Nat) : Nat := min n limit

end Sys2Proof.Machine
end

