-- ==== Sys2Proof/Machine/Bytes.lean ====
section
/-! DEFINITION. Bytes of the serial link: multi-byte fields, high byte first (R171), and the CRC of frames and
time messages (R155, R164). -/

namespace Sys2Proof

/-- A value in `n` bytes, high byte first. -/
def bytesOf : Nat → Nat → List Byte
  | 0, _ => []
  | n + 1, v => BitVec.ofNat 8 (v / 256 ^ n) :: bytesOf n v

/-- The value of bytes, high byte first. -/
def valueOf (bytes : List Byte) : Nat := bytes.foldl (fun v b => v * 256 + b.toNat) 0

/-- The field of `width` bytes at an offset of a payload. -/
def fieldAt (payload : List Byte) (offset width : Nat) : Nat := valueOf ((payload.drop offset).take width)

/-- One bit through the register of the generator x^16 + x^12 + x^5 + 1 (R155). -/
def crcBit (r : BitVec 16) : BitVec 16 := if r.msb then (r <<< 1) ^^^ 0x1021 else r <<< 1

/-- One byte through the register, most significant bit first (R155). -/
def crcByte (r : BitVec 16) (b : Byte) : BitVec 16 :=
  crcBit (crcBit (crcBit (crcBit (crcBit (crcBit (crcBit (crcBit (r ^^^ (b.setWidth 16 <<< 8)))))))))

/-- The check over bytes: register preset to all ones, the ones complement of the final register (R155). -/
def crcOf (bytes : List Byte) : BitVec 16 := ~~~(bytes.foldl crcByte 0xFFFF)

/-- A frame: code, payload length, payload and CRC (R164, R166). -/
def frameOf (code : Nat) (payload : List Byte) : List Byte :=
  let body := BitVec.ofNat 8 code :: BitVec.ofNat 8 payload.length :: payload
  body ++ bytesOf 2 (crcOf body).toNat

end Sys2Proof
end

