-- ==== Sys2Proof/Machine/Table.lean ====
section
/-! DEFINITION. The tables of the Plan Store (R1): lists of present entries with strictly rising handles. -/

namespace Sys2Proof.Machine

/-- The record at a handle; none when the entry is absent. -/
def Table.at? {α : Type} : Table α → Nat → Option α
  | [], _ => none
  | (k, a) :: rest, h => if k = h then some a else Table.at? rest h

/-- Make an entry present with a record, keeping the handles rising. -/
def Table.put {α : Type} : Table α → Nat → α → Table α
  | [], h, a => [(h, a)]
  | (k, b) :: rest, h, a =>
    if h < k then (h, a) :: (k, b) :: rest
    else if k = h then (h, a) :: rest
    else (k, b) :: Table.put rest h a

/-- Make an entry absent. -/
def Table.drop {α : Type} : Table α → Nat → Table α
  | [], _ => []
  | (k, b) :: rest, h => if k = h then Table.drop rest h else (k, b) :: Table.drop rest h

/-- Change the record at a handle, if present. -/
def Table.change {α : Type} : Table α → Nat → (α → α) → Table α
  | [], _, _ => []
  | (k, b) :: rest, h, f => (k, if k = h then f b else b) :: Table.change rest h f

/-- Change every present record. -/
def Table.changeAll {α : Type} : Table α → (Nat → α → α) → Table α
  | [], _ => []
  | (k, b) :: rest, f => (k, f k b) :: Table.changeAll rest f

/-- The lowest-numbered absent handle of a table of `size` entries; none when it is full (R1). -/
def Table.lowestAbsent {α : Type} (t : Table α) (size : Nat) : Option Nat :=
  (List.range' 1 size).find? fun h => (t.at? h).isNone

/-- The handles of a table in its canonical form: strictly rising, from 1 to the table's size (R1). -/
def Table.wf {α : Type} (t : Table α) (size : Nat) : Bool :=
  t.all (fun e => 1 ≤ e.1 && e.1 ≤ size) && decide (t.Pairwise fun a b => a.1 < b.1)

end Sys2Proof.Machine
end

