-- ==== Sys2Proof/Machine/Flags.lean ====
section
/-! DEFINITION. The attention causes and statuses, the ATTN line, the status block, and the codes of enumerated
fields (R167 to R171). -/

namespace Sys2Proof.Machine

/-! ## Attention causes -/

/-- A test point holds a result with UNREAD set. -/
def TestPoint.unread (p : TestPoint) : Bool :=
  match p.result with
  | some r => r.flags.unread
  | none => false

/-- The RESULT cause is a level: some present test point holds an UNREAD result (R127). -/
def State.resultCause (s : State) : Bool := s.points.any fun e => e.2.unread

/-- ATTN is pulled low while any attention cause is set (R168). -/
def State.attnLow (s : State) : Bool :=
  s.resultCause || s.port.queueEmpty || s.port.time || s.port.channel || s.port.linkCause

/-- Raise QUEUE_EMPTY (R48). -/
def State.raiseQueueEmpty (s : State) : State := { s with port := { s.port with queueEmpty := true } }

/-- Raise TIME (R158). -/
def State.raiseTime (s : State) : State := { s with port := { s.port with time := true } }

/-- Raise CHANNEL when a condition holds (R94). -/
def State.raiseChannelIf (s : State) (b : Bool) : State :=
  { s with port := { s.port with channel := s.port.channel || b } }

/-- Set REFUSED, which comes with LINK (R169). -/
def Port.setRefused (p : Port) : Port := { p with refused := true, linkCause := true }

/-- Set FRAME_CUT, which comes with LINK (R169). -/
def Port.setFrameCut (p : Port) : Port := { p with frameCut := true, linkCause := true }

/-- Clear every event cause and status (R167). In a transaction taken whole, those the latched block showed set
are those set. -/
def Port.clearEvents (p : Port) : Port :=
  { p with queueEmpty := false, time := false, channel := false, linkCause := false, refused := false
           frameCut := false }

/-! ## Codes -/

/-- The code of a link state (R162). -/
def Link.code : Link → Nat
  | .ready => 1
  | .working => 2
  | .answer => 3

/-- The code of a run state; PRECHECK is never reported (R46) and would read as IDLE. -/
def RunState.code : RunState → Nat
  | .idle => 0
  | .precheck => 0
  | .resetWait _ _ => 1
  | .startWait _ => 2
  | .playing _ => 3
  | .rest _ _ _ _ => 4

/-- The code of a lock state (R171). -/
def Lock.code : Lock → Nat
  | .free => 0
  | .acquiring => 1
  | .locked => 2
  | .holdover => 3

/-- The code of a status (R171). -/
def Status.code : Status → Nat
  | .idle => 0
  | .queued => 1
  | .active => 2
  | .suspended => 3

/-- The code of a search phase (R171). -/
def SearchPhase.code : SearchPhase → Nat
  | .bracketHigh => 0
  | .bracketLow => 1
  | .bisect => 2

/-- The code of a verdict (R171). -/
def Verdict.code : Verdict → Nat
  | .pass => 0
  | .failEarly => 1
  | .failLate => 2
  | .failNoTrip => 3
  | .failUnwanted => 4
  | .inconclusive => 5
  | .aborted => 6
  | .recorded => 7
  | .failHigh => 8
  | .failLow => 9
  | .noBracket => 10
  | .notConverged => 11

/-- The code of an abort reason (R171). -/
def AbortReason.code : AbortReason → Nat
  | .command => 1
  | .runReset => 2
  | .amplifier => 3
  | .notReset => 4
  | .channelUnfit => 5
  | .timeLost => 6
  | .lateStart => 7
  | .tooFar => 8
  | .preempted => 9
  | .removed => 10

/-- The code of a quantity (R171). -/
def Quantity.code : Quantity → Nat
  | .phaseMax => 0
  | .i1 => 5
  | .i2 => 6
  | .i3 => 7
  | .ix => 8

/-- The code of a combine mode (R171). -/
def Combine.code : Combine → Nat
  | .any => 0
  | .all => 1

/-- The code of an interruption policy (R171). -/
def Policy.code : Policy → Nat
  | .suspend => 0
  | .abort => 1

/-- The code of a schedule policy (R171). -/
def SchedulePolicy.code : SchedulePolicy → Nat
  | .lockedOnly => 0
  | .holdoverOk => 1

/-- The code of an end condition (R171). -/
def EndCondition.code : EndCondition → Nat
  | .time => 0
  | .input => 1

/-- The code of a qualification state (R171). -/
def Qualification.code : Qualification → Nat
  | .inactive => 0
  | .pendingOn _ _ => 1
  | .active => 2
  | .pendingOff _ _ => 3

/-- The run count of a qualification state: 0 outside the pending states (R95). -/
def Qualification.run : Qualification → Nat
  | .inactive => 0
  | .pendingOn n _ => n
  | .active => 0
  | .pendingOff n _ => n

/-- The value of bits of a byte, each with its weight. -/
def bitsOf (bits : List (Bool × Nat)) : Nat := (bits.map fun b => if b.1 then b.2 else 0).sum

/-- A Bool as a one-byte field, 1 for true: compliance, fitness and polarity by their codes (R171), and every flag,
presence byte and level that the code table of R171 has no row for. DESIGN CHOICE (log entry 34; unsafe): the codes of
the latter. -/
def byteOf (b : Bool) : List Byte := bytesOf 1 b.toNat

/-! ## The status block -/

/-- The attention byte (chapter Serial Command Port, Status block). -/
def State.attentionByte (s : State) : Nat :=
  bitsOf [(s.resultCause, 1), (s.port.queueEmpty, 2), (s.port.time, 4), (s.port.channel, 8),
    (s.port.linkCause, 16), (s.port.refused, 32), (s.port.frameCut, 64)]

/-- The run byte: run state and hold flag. -/
def State.runByte (s : State) : Nat := s.run.state.code + bitsOf [(s.run.hold, 8)]

/-- The lock byte: lock state and whether the label is known. -/
def State.lockByte (s : State) : Nat := s.time.lock.code + bitsOf [(s.time.label.isSome, 4)]

/-- The status block of four bytes (R167). -/
def State.statusBlock (s : State) : List Byte :=
  bytesOf 1 s.port.link.code ++ bytesOf 1 s.attentionByte ++ bytesOf 1 s.runByte ++ bytesOf 1 s.lockByte

end Sys2Proof.Machine
end

