-- ==== Sys2Proof/Machine/Ops.lean ====
section
/-! DEFINITION. The named operations that commands share: answering a request, the passage of time, state entry
and the transition to rest, pending configurations, reference counts, stale marks and posting. -/

namespace Sys2Proof.Machine

/-! ## Answering a request -/

/-- The result codes (R170). -/
inductive ResultCode where
  | ok | partly | frameError | noAnswer | unknownCommand | badLength | badHandle | absent | badValue
  | duplicateTag | inUse | busy | denied | full
  deriving DecidableEq, Repr

/-- The byte of a result code (R170). -/
def ResultCode.code : ResultCode → Nat
  | .ok => 0x00
  | .partly => 0x01
  | .frameError => 0x10
  | .noAnswer => 0x11
  | .unknownCommand => 0x12
  | .badLength => 0x13
  | .badHandle => 0x20
  | .absent => 0x21
  | .badValue => 0x22
  | .duplicateTag => 0x23
  | .inUse => 0x24
  | .busy => 0x25
  | .denied => 0x26
  | .full => 0x27

/-- Place a response in the response buffer; the link state becomes ANSWER and no request is in hand (R165).
DESIGN CHOICE (log entry 3; unsafe): in any link state. -/
def State.respond (s : State) (code : ResultCode) (payload : List Byte) : State :=
  { s with port := { s.port with link := .answer, response := frameOf code.code payload, inHand := none } }

/-- Answer OK with a payload. -/
def State.accept (s : State) (payload : List Byte) : State := s.respond .ok payload

/-- Refuse with a code: nothing changes but the response, of payload length 0 (R165, R170). -/
def State.refuse (s : State) (code : ResultCode) : State := s.respond code []

/-! ## The passage of time -/

/-- The tick counter has counted on to a tick; a command taken late leaves the counter where it stands (R147).
DESIGN CHOICE (log entry 2; unsafe). -/
def State.advanceTo (s : State) (t : Tick) : State :=
  if Tick.reached s.tick t then { s with tick := t } else s

/-- The accumulator after `n` generator instants (R67). -/
def Synth.turn (n : Nat) (y : Synth) : Synth :=
  { y with accumulator := y.accumulator + y.step * BitVec.ofNat 32 n }

/-- The generator instants since the accumulators were last stepped, up to and including `t`; tick 0 after
device reset is the first (R67, R176). DEDUCED (log entry 9; unsafe): tick 0 steps. -/
def Generator.instantsDue (g : Generator) (t : Tick) : Nat :=
  match g.instant with
  | none => t.toNat / 20 + 1
  | some last => if Tick.reached last t then Tick.instantsBetween last t else 0

/-- Step every accumulator up to generator instant `t`, keeping V1's value before that instant's own step (R67, R77). -/
def Generator.arrive (g : Generator) (t : Tick) : Generator :=
  match g.instantsDue t with
  | 0 => g
  | n + 1 => { g with synths := g.synths.map (Synth.turn (n + 1))
                      v1Before := (g.synths.v1.turn n).accumulator
                      instant := some t }

/-- Time reaches a generator instant: the counter counts on and every accumulator is stepped. -/
def State.atInstant (s : State) (t : Tick) : State :=
  { s.advanceTo t with gen := s.gen.arrive t }

/-! ## State entry and rest -/

/-- The amplitude a channel plays: the set amplitude, or the range where it exceeds it (R74). -/
def appliedAmplitude (amplitude range : Nat) : Nat := min amplitude range

/-- A synthesiser at a state entry (R73, R74). -/
def Synth.enter (y : Synth) (set : ChannelSetting) (range : Nat) (t : Tick) : Synth :=
  { y with frequency := set.frequency
           step := phaseStep set.frequency
           offset := phaseOf set.angle
           applied := appliedAmplitude set.amplitude range
           peak := peakCode (appliedAmplitude set.amplitude range) range
           clampNote := if range < set.amplitude then some t else none }

/-- A synthesiser that takes a state's frequency and angle with its amplitude left at 0 (R78). -/
def Synth.tune (y : Synth) (set : ChannelSetting) : Synth :=
  { y with frequency := set.frequency, step := phaseStep set.frequency, offset := phaseOf set.angle }

/-- A channel record at a state entry: qualifying count 0, compliance kept, windows begun when the channel is
supervised (R85, R88). -/
def Channel.enter (c : Channel) (applied : Nat) : Channel :=
  { c with qualifying := 0
           window := if c.config.range ≤ applied * 100 then some { settling := true, taken := 0, sum := 0 }
                     else none }

/-- Enter a state at a generator instant: snapshot, channels, binary outputs and windows (R72, R73, R76, R85). -/
def State.enterState (s : State) (handle : Nat) (content : StateContent) (t : Tick) : State :=
  { s with
    gen := { s.gen with
      synths := PerChannel.of fun c =>
        (s.gen.synths.get c).enter (content.settings.get c) (s.channels.get c).config.range t
      snapshot := some { handle := handle, content := content }
      outputs := content.outputs }
    channels := PerChannel.of fun c =>
      (s.channels.get c).enter
        (appliedAmplitude (content.settings.get c).amplitude (s.channels.get c).config.range) }

/-- A synthesiser at rest: frequency, step, offset and accumulator are kept (R75), after a deferred first state too,
whose frequency and offset it has taken without that state being entered (R78).
DESIGN CHOICE (log entry 36; unsafe): there R75 also names the last state entered. -/
def Synth.silence (y : Synth) : Synth := { y with applied := 0, peak := 0, clampNote := none }

/-- A channel record at the transition to rest: compliance NORMAL, count 0, no window (R85, R88). -/
def Channel.rest (c : Channel) : Channel := { c with lost := false, qualifying := 0, window := none }

/-- The outputs go to rest (R75, R76, R88). -/
def State.toRest (s : State) : State :=
  { s with
    gen := { s.gen with synths := s.gen.synths.map Synth.silence, snapshot := none, outputs := s.idleOutputs }
    channels := s.channels.map Channel.rest }

/-- The clamp notes of the state in play, ended at a tick (R74). -/
def Generator.notesEnding (g : Generator) (t : Tick) : List ClampNote :=
  Chan.all.filterMap fun c =>
    (g.synths.get c).clampNote.map fun entry => { channel := c, entry := entry, ended := t }

/-- The state in play ends: its clamp notes are handed to the Assessment Unit (R74). -/
def State.handNotes (s : State) (t : Tick) : State :=
  { s with shot := { s.shot with clampNotes := s.shot.clampNotes ++ s.gen.notesEnding t } }

/-! ## Configurations -/

/-- Put a channel configuration in force; a limit at or below the count makes a FIT channel UNFIT (R82). -/
def Channel.configure (c : Channel) (config : ChannelConfig) : Channel :=
  { c with config := config, fit := c.fit && decide (c.overloads < config.overloadLimit) }

/-- Apply a channel's pending configuration, if any (R83). -/
def Channel.applyPending (c : Channel) : Channel :=
  match c.pending with
  | none => c
  | some config => { c.configure config with pending := none }

/-- Whether a mode is WET. -/
def InputMode.isWet : InputMode → Bool
  | .dry => false
  | .wet _ _ => true

/-- Put an input configuration in force: entering WET from DRY clears the wet memory; the qualification state,
run count and candidate are kept (R97, R101, R110). -/
def Input.configure (i : Input) (config : InputConfig) : Input :=
  { i with config := config
           wetMemory := i.wetMemory && !(config.mode.isWet && !i.config.mode.isWet) }

/-- Apply an input's pending configuration, if any (R111). -/
def Input.applyPending (i : Input) : Input :=
  match i.pending with
  | none => i
  | some config => { i.configure config with pending := none }

/-- Apply every pending configuration; a channel that becomes UNFIT raises CHANNEL (R83, R94, R111). -/
def State.applyPending (s : State) : State :=
  { s with channels := s.channels.map Channel.applyPending, inputs := s.inputs.map Input.applyPending }.raiseChannelIf
    (Chan.all.any fun c => (s.channels.get c).fit && !(s.channels.get c).applyPending.fit)

/-- Whether the Run Controller is PLAYING. -/
def RunState.isPlaying : RunState → Bool
  | .playing _ => true
  | _ => false

/-! ## Records -/

/-- The test point at a handle. -/
def State.point? (s : State) (h : Nat) : Option TestPoint := s.points.at? h

/-- Change the test point at a handle. -/
def State.changePoint (s : State) (h : Nat) (f : TestPoint → TestPoint) : State :=
  { s with points := s.points.change h f }

/-- The ACTIVE test point with its handle. -/
def State.activePoint (s : State) : Option (Nat × TestPoint) :=
  match s.run.active with
  | none => none
  | some h => (s.point? h).map fun p => (h, p)

/-- The characteristic a content names, when its expectation is CURVE. -/
def PointContent.curve? (c : PointContent) : Option Nat :=
  match c.kind with
  | .shot (.curve h) _ _ => some h
  | _ => none

/-- Change the reference count of every state a list names, once for each appearance (R14). -/
def Table.countStates (t : Table StateRecord) (f : Nat → Nat) (handles : List Nat) : Table StateRecord :=
  handles.foldl (fun t h => t.change h fun r => { r with refCount := f r.refCount }) t

/-- Change the reference count of the characteristic a content names (R14). -/
def Table.countCurve (t : Table Characteristic) (f : Nat → Nat) (c : PointContent) : Table Characteristic :=
  match c.curve? with
  | none => t
  | some h => t.change h fun r => { r with refCount := f r.refCount }

/-- Add the references of a content (R14). -/
def State.addReferences (s : State) (c : PointContent) : State :=
  { s with states := Table.countStates s.states (· + 1) c.states, curves := Table.countCurve s.curves (· + 1) c }

/-- Remove the references of a content (R14). -/
def State.removeReferences (s : State) (c : PointContent) : State :=
  { s with states := Table.countStates s.states (· - 1) c.states, curves := Table.countCurve s.curves (· - 1) c }

/-- Mark a result STALE (R24). -/
def TestPoint.markStale (p : TestPoint) : TestPoint :=
  { p with result := p.result.map fun r => { r with flags := { r.flags with stale := true } } }

/-! ## Posting -/

/-- The run count of a posted result from the result it replaces (R126). -/
def nextRunCount (replaced : Option Result) (completed : Bool) : Nat :=
  match replaced with
  | none => if completed then 1 else 0
  | some r => if completed then saturate 255 (r.runCount + 1) else r.runCount

/-- Post a result into a test point: the result replaces the old one whole with UNREAD set and STALE clear, the
search context is removed and the test point becomes IDLE (R126, R140). -/
def TestPoint.post (r : Result) (p : TestPoint) : TestPoint :=
  { p with
    result := some { r with
      runCount := nextRunCount p.result (r.verdict ≠ .aborted)
      flags := { r.flags with unread := true, stale := false } }
    status := .idle
    context := none }

/-- Post the result of the ACTIVE test point, which leaves ACTIVE at the same instant; the expectation working
values become absent (R37, R47, R126). -/
def State.postActive (s : State) (h : Nat) (r : Result) : State :=
  { s with
    points := s.points.change h (TestPoint.post r)
    run := { s.run with active := none }
    shot := { s.shot with working := none } }

end Sys2Proof.Machine
end

