-- ==== Sys2Proof/Machine/Assess.lean ====
section
/-! DEFINITION. The Assessment Unit: the expectation at inception, the conditions that bear on the verdict, the
verdict of a shot, the search findings, and the results they give. -/

namespace Sys2Proof.Machine

/-! ## The expectation at inception -/

/-- The working values of a CURVE expectation from one reading of the characteristic (R29 to R32, R35). -/
def curveWorking (c : Characteristic) (fault : StateContent) (percent absolute : Nat) : Working :=
  let multiple := multipleOf (quantityValue c.content.quantity fault) c.content.pickup
  match expectedTime c.content.breakpoints multiple with
  | none => .curveBelow multiple c.revision
  | some time => .curve multiple c.revision (bandAround time percent absolute)

/-- The working values formed at inception; a search forms none (R33 to R35, R39). -/
def State.formWorking (s : State) (c : PointContent) (fault : StateContent) : Option Working :=
  match c.kind with
  | .search _ => none
  | .shot .none _ _ => some .unjudged
  | .shot .noTrip _ _ => some .noTrip
  | .shot (.fixed time) percent absolute => some (.fixed (bandAround time percent absolute))
  | .shot (.curve h) percent absolute =>
    (s.curves.at? h).map fun k => curveWorking k fault percent absolute

/-- The expected time and band of the working values (R38). -/
def Working.expected? : Working → Option Expected
  | .fixed e => some e
  | .curve _ _ e => some e
  | _ => none

/-- The multiple M of the working values (R38). -/
def Working.multiple? : Working → Option Nat
  | .curveBelow m _ => some m
  | .curve m _ _ => some m
  | _ => none

/-- The captured curve revision of the working values (R38). -/
def Working.revision? : Working → Option Nat
  | .curveBelow _ r => some r
  | .curve _ r _ => some r
  | _ => none

/-! ## The measured time and the conditions -/

/-- The exact measured time: criterion timestamp minus inception tick, absent when the criterion did not
qualify, inception was not reached, or the timestamp lies before inception (R116). -/
def ShotRecord.measured (r : ShotRecord) : Option Nat :=
  match r.inception, r.criterion with
  | some inception, some c =>
    if Tick.reached inception c.timestamp then some (Tick.elapsed inception c.timestamp) else none
  | _, _ => none

/-- An entry of the operation table counts as operated before inception (R118). -/
def TableEntry.beforeInception (e : TableEntry) (inception : Option Tick) : Bool :=
  match e.operate, inception with
  | none, _ => false
  | some _, none => true
  | some o, some i => e.standing || Tick.before o i

/-- A monitored input operated before inception (R118). -/
def State.prefault (s : State) (monitored : BitVec 10) : Bool :=
  Inp.all.any fun n => n.isIn monitored && (s.inputs.get n).entry.beforeInception s.shot.inception

/-- Delivery is in doubt by clamping over the judged interval (R119). -/
def ShotRecord.clamped (r : ShotRecord) (inception ended : Tick) : Bool :=
  r.clampNotes.any fun n => Tick.within inception ended n.entry

/-- A channel's compliance as the shot record gives it just before a tick at or after inception (R115, R120). -/
def ShotRecord.lostBefore (r : ShotRecord) (c : Chan) (inception t : Tick) : Bool :=
  r.changes.foldl
    (fun lost k =>
      if k.channel = c ∧ Tick.reached inception k.decision ∧ Tick.before k.decision t then k.lost else lost)
    (match r.complianceAtInception with
     | some p => p.get c
     | none => false)

/-- One channel puts delivery in doubt by compliance: a change to LOST inside the judged interval, or LOST
standing at the entry, inside it, of a state that sets the channel above zero (R120). -/
def ShotRecord.channelDoubt (r : ShotRecord) (inception ended : Tick) (c : Chan) : Bool :=
  (r.changes.any fun k => decide (k.channel = c) && k.lost && Tick.within inception ended k.decision)
    || (r.entries.any fun e =>
      Tick.within inception ended e.entry && decide (0 < e.amplitudes.get c) && r.lostBefore c inception e.entry)

/-- Delivery is in doubt by compliance over the judged interval (R120). -/
def ShotRecord.complianceDoubt (r : ShotRecord) (inception ended : Tick) : Bool :=
  Chan.all.any (r.channelDoubt inception ended)

/-- The three findings of R118 to R120. -/
structure Findings where
  prefault : Bool
  clamped : Bool
  compliance : Bool
  deriving DecidableEq, Repr

/-- No finding. -/
def Findings.nothing : Findings := { prefault := false, clamped := false, compliance := false }

/-- Some finding names a flag (R135). -/
def Findings.any (f : Findings) : Bool := f.prefault || f.clamped || f.compliance

/-- The tests of R118 to R120 on a shot that had a start instant, the judged interval ending at `ended`. -/
def State.findings (s : State) (monitored : BitVec 10) (ended : Tick) : Findings :=
  match s.shot.inception with
  | none => { prefault := s.prefault monitored, clamped := false, compliance := false }
  | some i => { prefault := s.prefault monitored, clamped := s.shot.clamped i ended
                compliance := s.shot.complianceDoubt i ended }

/-- The end of the judged interval: the trip instant when T is present, else the instant PLAYING ends (R119). -/
def ShotRecord.judgedEnd (r : ShotRecord) (ended : Tick) : Tick :=
  match r.measured, r.criterion with
  | some _, some c => c.timestamp
  | _, _ => ended

/-! ## The verdict of a shot -/

/-- Step 4 of the decision: the verdict by the expectation, and whether SHORT_WINDOW is added (R122). -/
def expectationVerdict (w : Working) (measured : Option Nat) (window : Nat) : Verdict × Bool :=
  match w.expected?, w with
  | some band, _ =>
    match measured with
    | some t =>
      if t < band.low then (.failEarly, false)
      else if band.high < t then (.failLate, false)
      else (.pass, false)
    | none => if band.high ≤ window then (.failNoTrip, false) else (.inconclusive, true)
  | none, .unjudged => (.recorded, false)
  | none, _ => if measured.isSome then (.failUnwanted, false) else (.pass, false)

/-- The ordered decision for a shot that was not aborted: operation before inception, then delivery in doubt,
then the expectation (R121). -/
def shotVerdict (f : Findings) (w : Working) (measured : Option Nat) (window : Nat) : Verdict × Bool :=
  if f.prefault then (.failUnwanted, false)
  else if f.clamped || f.compliance then (.inconclusive, false)
  else expectationVerdict w measured window

/-! ## The operated-inputs list -/

/-- The time of a table tick in the list: relative to inception, or 0 when the entry counts as operated before
inception or inception was not reached (R125). -/
def listTime (inception : Option Tick) (early : Bool) (t : Tick) : Nat :=
  match inception with
  | none => 0
  | some i => if early then 0 else Tick.elapsed i t

/-- One input's entry of the operated-inputs list; the release time is 0 under the same three conditions as the
operate time: operate tick before inception, standing entry, inception not reached (R125).
DEDUCED (log entry 14; unsafe). Times are exact here, however long the shot. -/
def operatedEntry (inception : Option Tick) (n : Inp) (e : TableEntry) : Option OperatedEntry :=
  e.operate.map fun o =>
    { input := n
      operate := listTime inception (e.beforeInception inception) o
      release := e.release.map (listTime inception (e.beforeInception inception)) }

/-- Insert into a list ordered by first operate time, after the entries of equal time (R125). -/
def insertOperated (e : OperatedEntry) : List OperatedEntry → List OperatedEntry
  | [] => [e]
  | k :: rest => if e.operate < k.operate then e :: k :: rest else k :: insertOperated e rest

/-- The operated-inputs list: earliest first, equal times by input number (R125). -/
def State.operatedList (s : State) : List OperatedEntry :=
  (Inp.all.filterMap fun n => operatedEntry s.shot.inception n (s.inputs.get n).entry).foldl
    (fun list e => insertOperated e list) []

/-! ## Results -/

/-- Flags as a result is formed; UNREAD and STALE are set at the posting. -/
def formedFlags (f : Findings) (shortWindow timeHoldover : Bool) : ResultFlags :=
  { prefault := f.prefault, clamped := f.clamped, compliance := f.compliance, shortWindow := shortWindow
    timeHoldover := timeHoldover, stale := false, unread := true }

/-- The start conditions record a start taken in HOLDOVER (R161). -/
def ShotRecord.inHoldover (r : ShotRecord) : Bool :=
  match r.startConditions with
  | some (lock, _) => lock = .holdover
  | none => false

/-- The result of a SHOT test point whose shot had a start instant, at the instant PLAYING ends (R38, R121 to
R125); the measured time is recorded saturating at 32 bits (R123). -/
def State.shotResult (s : State) (c : PointContent) (ended : Tick) (abort : Option AbortReason) : Result :=
  let f := s.findings c.monitored (s.shot.judgedEnd ended)
  let measured := s.shot.measured
  let window := match s.shot.inception with
    | some i => Tick.elapsed i ended
    | none => 0
  let decided : Verdict × Bool := match abort with
    | some _ => (.aborted, false)
    | none => shotVerdict f (s.shot.working.getD .unjudged) measured window
  { verdict := decided.1
    reason := abort
    flags := formedFlags f decided.2 s.shot.inHoldover
    measured := measured.map (saturate 4294967295)
    expected := s.shot.working.bind Working.expected?
    multiple := s.shot.working.bind Working.multiple?
    revision := s.shot.working.bind Working.revision?
    skew := s.shot.startConditions.map Prod.snd
    runCount := 0
    operated := s.operatedList
    search := none }

/-- The ABORTED result of a SHOT test point with no start instant (R124). -/
def bareAbort (reason : AbortReason) : Result :=
  { verdict := .aborted, reason := some reason, flags := formedFlags Findings.nothing false false
    measured := none, expected := none, multiple := none, revision := none, skew := none, runCount := 0
    operated := [], search := none }

/-! ## Search findings and results -/

/-- The trip finding of a search shot: the criterion qualified with its timestamp at or after inception and its
qualifying sample at or before the end of the fault state (R135). -/
def ShotRecord.tripped (r : ShotRecord) : Bool :=
  match r.measured, r.criterion with
  | some _, some c =>
    match r.faultEnd with
    | some e => Tick.reached c.qualifying e
    | none => true
  | _, _ => false

/-- The doubt finding of a completed search shot, the judged interval ending at the trip instant of its trip finding,
or at the shot end when the shot did not trip (R135). -/
def State.searchFindings (s : State) (monitored : BitVec 10) (ended : Tick) : Findings :=
  s.findings monitored (if s.shot.tripped then s.shot.judgedEnd ended else ended)

/-- What follows the shot end of a search shot. -/
inductive SearchNext where
  /-- The search goes on with this context. -/
  | goOn (context : SearchContext)
  /-- The search ends with this verdict, context and boundary. -/
  | finish (verdict : Verdict) (context : SearchContext) (boundary : Option Nat)
  deriving DecidableEq, Repr

/-- The verdict of a converged search (R138). -/
def boundaryVerdict (p : SearchParams) (boundary : Nat) : Verdict :=
  let hw := halfWidth p.boundary p.tolerancePercent p.toleranceAbsolute
  if p.boundary + hw < boundary then .failHigh
  else if boundary < p.boundary - hw then .failLow
  else .pass

/-- The convergence test (R137). -/
def testConvergence (p : SearchParams) (c : SearchContext) : SearchNext :=
  if c.upper - c.lower ≤ p.resolution then .finish (boundaryVerdict p c.upper) c (some c.upper)
  else if c.shotsUsed = p.maximumShots then .finish .notConverged c (some c.upper)
  else .goOn c

/-- The search procedure at the shot end of a search shot (R136). -/
def searchStep (p : SearchParams) (c : SearchContext) (tripped doubt : Bool) : SearchNext :=
  let used := { c with shotsUsed := c.shotsUsed + 1 }
  if doubt then .finish .inconclusive used (some c.upper)
  else
    match c.phase, tripped with
    | .bracketHigh, true => .goOn { used with phase := .bracketLow }
    | .bracketHigh, false => .finish .noBracket used none
    | .bracketLow, true => .finish .noBracket used none
    | .bracketLow, false => testConvergence p { used with phase := .bisect }
    | .bisect, true => testConvergence p { used with upper := trialOf c }
    | .bisect, false => testConvergence p { used with lower := trialOf c }

/-- The result of a search (R139). -/
def searchResult (verdict : Verdict) (reason : Option AbortReason) (c : SearchContext) (boundary : Option Nat)
    (f : Findings) (operated : List OperatedEntry) : Result :=
  { verdict := verdict, reason := reason, flags := formedFlags f false false, measured := none
    expected := none, multiple := none, revision := none, skew := none, runCount := 0, operated := operated
    search := some { lower := c.lower, upper := c.upper, boundary := boundary, shotsUsed := c.shotsUsed } }

/-- The context a search starts with (R133). -/
def SearchParams.firstContext (p : SearchParams) : SearchContext :=
  { phase := .bracketHigh, lower := p.lower, upper := p.upper, shotsUsed := 0 }

/-- The ABORTED result of a search with no search shot in play (R139, R145). -/
def searchAbort (reason : AbortReason) (c : SearchContext) : Result :=
  searchResult .aborted (some reason) c none Findings.nothing []

end Sys2Proof.Machine
end

