-- ==== Sys2Proof/Machine/Control.lean ====
section
/-! DEFINITION. The shared operations of the Run Controller: aborting, entering states, ending states and shots,
the precheck, taking the head, the end of REST and the end of RESET_WAIT. `t` is the tick at which the operation
takes place. -/

namespace Sys2Proof.Machine

/-- Set the run state. -/
def State.setRun (s : State) (r : RunState) : State := { s with run := { s.run with state := r } }

/-- Enter REST with the rest interval in force (R59, R60), an amplifier fault still to be acted on kept (R144). -/
def State.enterRest (s : State) (t : Tick) (fault : Option Tick) : State :=
  s.setRun (.rest t s.run.setup.restInterval false fault)

/-! ## Aborting -/

/-- The shot in hand has had its start instant (R124). -/
def RunState.started : RunState → Bool
  | .playing p =>
    match p.stage with
    | .ready _ => false
    | _ => true
  | _ => false

/-- The ABORTED result of the ACTIVE test point at an abort instant (R124, R139). The doubt finding of a search shot
is made to the abort instant and its trip is not used (R144). DEDUCED (log entry 15; unsafe): where R132 would end
the interval at the trip. -/
def State.abortResult (s : State) (p : TestPoint) (reason : AbortReason) (t : Tick) : Result :=
  match p.content.kind with
  | .shot _ _ _ => if s.run.state.started then s.shotResult p.content t (some reason) else bareAbort reason
  | .search params =>
    let context := p.context.getD params.firstContext
    if s.run.state.started then
      searchResult .aborted (some reason) context none (s.findings p.content.monitored t) s.operatedList
    else searchAbort reason context

/-- The effects of every abort of the ACTIVE test point but the entry into REST (R61, steps 1 to 5). -/
def State.abortCore (s : State) (h : Nat) (p : TestPoint) (reason : AbortReason) (t : Tick) : State :=
  let noted := s.handNotes t
  let posted := (noted.postActive h (noted.abortResult p reason t)).toRest
  if s.run.state.isPlaying then posted.applyPending else posted

/-- Abort the ACTIVE test point and enter REST (R61). -/
def State.abortActive (s : State) (reason : AbortReason) (t : Tick) : State :=
  match s.activePoint with
  | none => s
  | some (h, p) => (s.abortCore h p reason t).enterRest t none

/-! ## Entering and ending states -/

/-- Put the trial amplitude on the varied channels of a fault state (R80). -/
def StateContent.withTrial (c : StateContent) (varied : BitVec 8) (trial : Nat) : StateContent :=
  { c with settings := PerChannel.of fun ch =>
      if ch.isIn varied then { c.settings.get ch with amplitude := trial } else c.settings.get ch }

/-- The content played at a position of the ACTIVE test point's list: the record's, with the trial amplitude in
the fault state of a search (R72, R80). -/
def TestPoint.playedContent (p : TestPoint) (position : Nat) (c : StateContent) : StateContent :=
  match p.content.kind with
  | .search params =>
    if position = p.content.faultPosition then
      c.withTrial params.varied (trialOf (p.context.getD params.firstContext))
    else c
  | .shot _ _ _ => c

/-- The stage of PLAYING, keeping a reported amplifier fault. -/
def State.setStage (s : State) (g : Stage) : State :=
  match s.run.state with
  | .playing p => s.setRun (.playing { p with stage := g })
  | _ => s

/-- At inception the Assessment Unit takes the tick, the compliance of every channel and the working values
(R35, R115). -/
def State.inception (s : State) (c : PointContent) (fault : StateContent) (t : Tick) : State :=
  { s with shot := { s.shot with
      inception := some t
      complianceAtInception := some (s.channels.map fun k => k.lost)
      working := s.formWorking c fault } }

/-- Note a state's entry with the amplitudes its snapshot sets (R120). -/
def State.noteEntry (s : State) (content : StateContent) (t : Tick) : State :=
  { s with shot := { s.shot with
      entries := s.shot.entries ++ [{ entry := t, amplitudes := content.settings.map fun k => k.amplitude }] } }

/-- The state record at a position of a list. -/
def State.listed (s : State) (c : PointContent) (position : Nat) : Option (Nat × StateContent) :=
  match c.states[position - 1]? with
  | none => none
  | some h => (s.states.at? h).map fun r => (h, r.content)

/-- Enter the state at a position of the ACTIVE test point's list (R55). -/
def State.enterPosition (s : State) (p : TestPoint) (position : Nat) (t : Tick) : State :=
  match s.listed p.content position with
  | none => s
  | some (h, record) =>
    let content := p.playedContent position record
    let entered := ((s.enterState h content t).noteEntry content t).setStage (.inPlay position t)
    if position = p.content.faultPosition then entered.inception p.content content t else entered

/-- The target of a point-on-wave inception at a position, when the state there is the fault state with
inception ANGLE (R77). -/
def State.waveTarget (s : State) (c : PointContent) (position : Nat) : Option Phase :=
  if position = c.faultPosition then
    match s.listed c position with
    | some (_, k) =>
      match k.inception with
      | .angle theta => some (phaseOf theta)
      | .continuous => none
    | none => none
  else none

/-- V1's accumulator reached or passed a target at the present instant (R77). -/
def Generator.meets (g : Generator) (target : Phase) : Bool :=
  onArc g.v1Before g.synths.v1.accumulator target

/-- Apply the search procedure at the shot end of a search shot (R136 to R140). -/
def State.endSearchShot (s : State) (h : Nat) (p : TestPoint) (params : SearchParams) (t : Tick) : State :=
  let f := s.searchFindings p.content.monitored t
  match searchStep params (p.context.getD params.firstContext) s.shot.tripped f.any with
  | .goOn context => s.changePoint h fun q => { q with context := some context }
  | .finish verdict context boundary =>
    s.postActive h (searchResult verdict none context boundary f s.operatedList)

/-- The amplifier fault reported while PLAYING and not yet acted on (R63). -/
def RunState.fault? : RunState → Option Tick
  | .playing p => p.fault
  | _ => none

/-- The shot ends: verdict or search procedure, outputs to rest, pending configurations, REST (R58). A search that
goes on keeps a reported amplifier fault, on which it is aborted in REST (R144). DEDUCED (log entry 18; unsafe). -/
def State.endShot (s : State) (h : Nat) (p : TestPoint) (t : Tick) : State :=
  let noted := s.handNotes t
  let judged := match p.content.kind with
    | .shot _ _ _ => noted.postActive h (noted.shotResult p.content t none)
    | .search params => noted.endSearchShot h p params t
  (judged.toRest.applyPending).enterRest t (if judged.run.active.isSome then s.run.state.fault? else none)

/-- Note the instant at which the state at the fault position ended (R135). -/
def State.noteFaultEnd (s : State) (c : PointContent) (position : Nat) (t : Tick) : State :=
  if position = c.faultPosition then { s with shot := { s.shot with faultEnd := some t } } else s

/-- The state at a position ends: the next state is entered, or its entry as the fault state is deferred, or the
shot ends (R56, R58, R77). -/
def State.endState (s : State) (h : Nat) (p : TestPoint) (position : Nat) (t : Tick) : State :=
  let ended := s.noteFaultEnd p.content position t
  if position < p.content.states.length then
    match ended.waveTarget p.content (position + 1) with
    | some target =>
      if ended.gen.meets target then (ended.handNotes t).enterPosition p (position + 1) t
      else ended.setStage (.deferred position)
    | none => (ended.handNotes t).enterPosition p (position + 1) t
  else ended.endShot h p t

/-! ## Precheck -/

/-- The shot will drive the channel: a state of the list sets it above zero, or the search varies it (R51). -/
def State.covers (s : State) (c : PointContent) (ch : Chan) : Bool :=
  (c.states.any fun h =>
    match s.states.at? h with
    | some r => decide (0 < (r.content.settings.get ch).amplitude)
    | none => false)
  || match c.kind with
    | .search params => ch.isIn params.varied
    | .shot _ _ _ => false

/-- Every covered channel is FIT (R51). -/
def State.fitFor (s : State) (c : PointContent) : Bool :=
  Chan.all.all fun ch => !s.covers c ch || (s.channels.get ch).fit

/-- The schedule check of an AT_TIME test point: the reason it fails with, if any (R159). -/
def State.scheduleFailure (s : State) (c : PointContent) : Option AbortReason :=
  match c.start with
  | .immediate => none
  | .atTime day second _ =>
    match s.time.label with
    | none => some .timeLost
    | some l =>
      let trusted := s.time.lock = .locked || (s.time.lock = .holdover && s.run.setup.policy = .holdoverOk)
      let lead := leadOver (secondCount day second) (secondCount l.day l.second)
      if !trusted then some .timeLost
      else if lead < 2 then some .lateStart
      else if 3600 < lead then some .tooFar
      else none

/-- The relay-reset condition: every monitored input stands in INACTIVE (R109). -/
def State.relayReset (s : State) (monitored : BitVec 10) : Bool :=
  Inp.all.all fun n => !n.isIn monitored || decide ((s.inputs.get n).qualification = .inactive)

/-- Let a test point that passed its checks go on: an IMMEDIATE one to PLAYING, its start instant the next
generator instant, an AT_TIME one to START_WAIT under the policy just read (R50, R53, R54).
DEDUCED (log entry 11; unsafe): strictly after. -/
def State.letStart (s : State) (c : PointContent) (t : Tick) : State :=
  match c.start with
  | .immediate => s.setRun (.playing { stage := .ready (Tick.instantAfter t), fault := none })
  | .atTime _ _ _ => s.setRun (.startWait { policy := s.run.setup.policy, start := none, lost := none })

/-- PRECHECK of the ACTIVE test point (R50). -/
def State.precheck (s : State) (t : Tick) : State :=
  let s := s.setRun .precheck
  match s.activePoint with
  | none => s
  | some (_, p) =>
    if !s.fitFor p.content then s.abortActive .channelUnfit t
    else match s.scheduleFailure p.content with
      | some reason => s.abortActive reason t
      | none =>
        if s.relayReset p.content.monitored then s.letStart p.content t
        else s.setRun (.resetWait t s.run.setup.resetWait)

/-- The relay-reset condition is judged during RESET_WAIT; when it holds the wait ends, an AT_TIME test point
after a second schedule check (R52, R109). -/
def State.judgeRelayReset (s : State) (t : Tick) : State :=
  match s.run.state, s.activePoint with
  | .resetWait _ _, some (_, p) =>
    if s.relayReset p.content.monitored then
      match s.scheduleFailure p.content with
      | some reason => s.abortActive reason t
      | none => s.letStart p.content t
    else s
  | _, _ => s

/-! ## The queue -/

/-- Insert an entry after the last marked entry, or at the head (R43, R45). -/
def insertAfterMarked (q : List QueueEntry) (e : QueueEntry) : List QueueEntry :=
  q.takeWhile (fun k => k.marked) ++ e :: q.dropWhile (fun k => k.marked)

/-- A test point taken from the head: ACTIVE, a QUEUED search with a new context (R47, R133). -/
def TestPoint.take (p : TestPoint) : TestPoint :=
  { p with
    status := .active
    context := match p.content.kind with
      | .shot _ _ _ => none
      | .search params => if p.status = .suspended then p.context else some params.firstContext }

/-- Take the head of the queue and make its precheck (R48). -/
def State.takeHead (s : State) (t : Tick) : State :=
  match s.run.queue with
  | [] => s
  | e :: rest =>
    State.precheck
      { s with points := s.points.change e.handle TestPoint.take
               run := { s.run with queue := rest, active := some e.handle } } t

/-- Enter IDLE: take the next head when one waits and the hold flag is clear; an empty queue raises QUEUE_EMPTY (R48). -/
def State.enterIdle (s : State) (t : Tick) : State :=
  let s := s.setRun .idle
  if s.run.queue = [] then s.raiseQueueEmpty
  else if s.run.hold then s
  else s.takeHead t

/-- In IDLE with the hold flag clear, take the head (R48). -/
def State.takeIfIdle (s : State) (t : Tick) : State :=
  if s.run.state = .idle ∧ s.run.hold = false then s.takeHead t else s

/-- Suspend the ACTIVE search: it keeps its context and goes back into the queue unmarked (R45, R142). -/
def State.suspendSearch (s : State) (h : Nat) : State :=
  { s with
    points := s.points.change h fun p => { p with status := .suspended }
    run := { s.run with
      queue := insertAfterMarked s.run.queue { handle := h, marked := false }
      active := none } }

/-- The end-of-REST decision of an ACTIVE search, the hold flag clear (R59, R142).
DEDUCED (log entry 13; unsafe): PREEMPTED leads to IDLE. -/
def State.decideSearch (s : State) (h : Nat) (p : TestPoint) (t : Tick) : State :=
  if s.run.queue.any (fun e => e.marked) then
    match p.content.kind with
    | .search params =>
      match params.policy with
      | .suspend =>
        if s.run.queue.length < Config.queueEntries then (s.suspendSearch h).enterIdle t else s.precheck t
      | .abort => (s.postActive h (searchAbort .preempted (p.context.getD params.firstContext))).enterIdle t
    | .shot _ _ _ => s.precheck t
  else s.precheck t

/-- The rest interval has ended (R59). -/
def State.endRest (s : State) (since : Tick) (interval : Nat) (fault : Option Tick) (t : Tick) : State :=
  match s.activePoint with
  | none => s.enterIdle t
  | some (h, p) => if s.run.hold then s.setRun (.rest since interval true fault) else s.decideSearch h p t

/-- Add a test point to the queue by a placement rule: checks, entry, status QUEUED, and the taking of the head
when the controller is IDLE (R42, R43, R48). The position counts from 1 at the moment of insertion. -/
def State.enqueue (s : State) (h : Nat) (queue : List QueueEntry) (position : Nat) : State :=
  if h = 0 ∨ Config.pointEntries < h then s.refuse .badHandle
  else match s.point? h with
    | none => s.refuse .absent
    | some p =>
      if p.status ≠ .idle then s.refuse .busy
      else if Config.queueEntries ≤ s.run.queue.length then s.refuse .full
      else
        (State.takeIfIdle
          { s with points := s.points.change h fun p => { p with status := .queued }
                   run := { s.run with queue := queue } } s.tick).accept (bytesOf 1 position)

end Sys2Proof.Machine
end

