-- ==== Sys2Proof/Machine/Sampling.lean ====
section
/-! DEFINITION. The shared operations on samples: sensing and qualification of the binary inputs with the
operation table and the trip criterion, and the drive and feedback samples of the channels. -/

namespace Sys2Proof.Machine

/-! ## From the line to a sensed level -/

/-- The raw level of a sample: the contact sense line in DRY mode, the wet voltage against the thresholds with
the wet memory between them in WET mode (R96, R97). A code above 300 is taken as 300. -/
def Input.rawLevel (i : Input) (closed : Bool) (volts : BitVec 9) : Bool :=
  match i.config.mode with
  | .dry => closed
  | .wet on off =>
    let v := min volts.toNat 300
    if on ≤ v then true else if v ≤ off then false else i.wetMemory

/-- The sensed level of a sample (R98). -/
def Input.sensedLevel (i : Input) (closed : Bool) (volts : BitVec 9) : Bool :=
  i.rawLevel closed volts != i.config.inverted

/-- The wet memory after a sample of a sensed level: the raw level decided, in WET mode (R97). -/
def Input.memoryAfter (i : Input) (level : Bool) : Bool :=
  if i.config.mode.isWet then level != i.config.inverted else i.wetMemory

/-! ## Qualification -/

/-- What one sample changes on an input. -/
inductive InputChange where
  | nothing
  | bounce
  | operated (timestamp : Tick)
  | released (timestamp : Tick)
  deriving DecidableEq, Repr

/-- One sample through the qualification machine (R99, R100, R101). -/
def qualify (q : Nat) (t : Tick) (level : Bool) (state : Qualification) : Qualification × InputChange :=
  match state, level with
  | .inactive, true => if q ≤ 1 then (.active, .operated t) else (.pendingOn 1 t, .nothing)
  | .inactive, false => (.inactive, .nothing)
  | .pendingOn n c, true => if q ≤ n + 1 then (.active, .operated c) else (.pendingOn (n + 1) c, .nothing)
  | .pendingOn _ _, false => (.inactive, .bounce)
  | .active, true => (.active, .nothing)
  | .active, false => if q ≤ 1 then (.inactive, .released t) else (.pendingOff 1 t, .nothing)
  | .pendingOff _ _, true => (.active, .bounce)
  | .pendingOff n c, false => if q ≤ n + 1 then (.inactive, .released c) else (.pendingOff (n + 1) c, .nothing)

/-- The sensed level that disagrees with a qualification state (R99, R100). -/
def Qualification.disagrees (state : Qualification) (level : Bool) : Bool :=
  match state with
  | .inactive => level
  | .pendingOn _ _ => !level
  | .active => !level
  | .pendingOff _ _ => level

/-! ## The operation table -/

/-- A timestamp no earlier than the start instant (R103). -/
def clipToStart (started t : Tick) : Tick := if Tick.before t started then started else t

/-- Record an operate in an entry without one (R103). -/
def TableEntry.recordOperate (e : TableEntry) (started t : Tick) : TableEntry :=
  match e.operate with
  | some _ => e
  | none => { e with operate := some (clipToStart started t), standing := Tick.before t started }

/-- Record a release in an entry with an operate and no release (R103). -/
def TableEntry.recordRelease (e : TableEntry) (started t : Tick) : TableEntry :=
  match e.operate, e.release with
  | some _, none => { e with release := some (clipToStart started t) }
  | _, _ => e

/-- Record a change in an entry, at a sample inside the recording window (R103, R104). -/
def TableEntry.record (e : TableEntry) (started : Tick) (change : InputChange) : TableEntry :=
  match change with
  | .nothing => e
  | .bounce => { e with bounces := saturate 255 (e.bounces + 1) }
  | .operated t => e.recordOperate started t
  | .released t => e.recordRelease started t

/-- An entry cleared at a start instant: an input that has operated and not released stands (R102). -/
def clearedEntry (state : Qualification) (started : Tick) : TableEntry :=
  match state with
  | .active => { TableEntry.clear with operate := some started, standing := true }
  | .pendingOff _ _ => { TableEntry.clear with operate := some started, standing := true }
  | _ => TableEntry.clear

/-! ## The trip criterion -/

/-- The operate tick of an input's entry. -/
def State.operateTick (s : State) (n : Inp) : Option Tick := (s.inputs.get n).entry.operate

/-- The later of two ticks of one shot. -/
def laterTick (started a b : Tick) : Tick := if Tick.elapsed started a ≤ Tick.elapsed started b then b else a

/-- The earlier of two ticks of one shot. -/
def earlierTick (started a b : Tick) : Tick := if Tick.elapsed started a ≤ Tick.elapsed started b then a else b

/-- A monitored input joined the operated set at sample `t` with operate tick `o`: the criterion qualifies as the
combine mode gives, at most once in the shot (R106, R107, R108). -/
def State.joinCriterion (s : State) (c : PointContent) (n : Inp) (t o : Tick) : Option Criterion :=
  match s.shot.criterion, c.combine with
  | some k, .any =>
    if k.qualifying = t then some { k with timestamp := earlierTick s.shot.started k.timestamp o } else some k
  | some k, .all => some k
  | none, .any =>
    if Inp.all.any fun m => decide (m ≠ n) && m.isIn c.monitored && (s.operateTick m).isSome then none
    else some { qualifying := t, timestamp := o }
  | none, .all =>
    if Inp.all.all fun m => !m.isIn c.monitored || (s.operateTick m).isSome then
      some { qualifying := t
             timestamp := Inp.all.foldl
               (fun latest m =>
                 if m.isIn c.monitored then
                   match s.operateTick m with
                   | some k => laterTick s.shot.started latest k
                   | none => latest
                 else latest) o }
    else none

/-- The criterion after a change recorded for an input: a first operate of a monitored input joins (R106, R107). -/
def State.updateCriterion (s : State) (n : Inp) (t : Tick) (before : TableEntry) : State :=
  match s.activePoint, before.operate, s.operateTick n with
  | some (_, p), none, some o =>
    if n.isIn p.content.monitored then
      { s with shot := { s.shot with criterion := s.joinCriterion p.content n t o } }
    else s
  | _, _, _ => s

/-! ## One input's sample -/

/-- Inside a shot's recording window: PLAYING, from the start instant on (R102). -/
def State.recording (s : State) : Bool := s.run.state.started

/-- An input record after a sample; `started` is the start instant when the sample lies in a recording window. -/
def Input.sample (i : Input) (t : Tick) (level : Bool) (started : Option Tick) : Input :=
  let step := qualify i.config.samples t level i.qualification
  { i with
    wetMemory := i.memoryAfter level
    qualification := step.1
    sensed := level
    sampledAt := some t
    entry := match started with
      | some tick => i.entry.record tick step.2
      | none => i.entry }

/-- Take one input's sample of a sensed level at an input sample instant, once: qualification, operation table
and trip criterion (R99 to R108). DESIGN CHOICE (log entry 7; unsafe): once an instant. -/
def State.takeSample (s : State) (t : Tick) (n : Inp) (level : Bool) : State :=
  let i := s.inputs.get n
  if i.sampledAt = some t then s
  else
    State.updateCriterion
      { s with inputs := s.inputs.update n fun i =>
          i.sample t level (if s.recording then some s.shot.started else none) }
      n t i.entry

/-- An input changed into INACTIVE between two states. -/
def becameInactive (before after : State) (n : Inp) : Bool :=
  decide ((before.inputs.get n).qualification ≠ .inactive)
    && decide ((after.inputs.get n).qualification = .inactive)

/-- The Binary Input Unit reports changes of monitored inputs into INACTIVE, on which the relay-reset condition
is judged again (R109). -/
def State.reportReleases (before after : State) (t : Tick) : State :=
  match after.activePoint with
  | some (_, p) =>
    if Inp.all.any fun n => n.isIn p.content.monitored && becameInactive before after n then
      after.judgeRelayReset t
    else after
  | none => after

/-- Take one input's sample and act on a change into INACTIVE. -/
def State.sampleOne (s : State) (t : Tick) (n : Inp) (level : Bool) : State :=
  State.reportReleases s (s.takeSample t n level) t

/-- Take the samples of all ten inputs at one instant; the relay-reset condition is judged on all of them. -/
def State.sampleAll (s : State) (t : Tick) (closed : BitVec 10) (volts : PerInput (BitVec 9)) : State :=
  State.reportReleases s
    (Inp.all.foldl
      (fun s n => s.takeSample t n ((s.inputs.get n).sensedLevel (n.isIn closed) (volts.get n))) s) t

/-! ## Drive and feedback samples -/

/-- The drive sample of a channel: 0 while muted (R70). -/
def driveSample (y : Synth) (mute : Bool) : BitVec 16 :=
  if mute then 0 else BitVec.ofInt 16 (sampleAt y.peak (y.accumulator + y.offset))

/-- Deliver one drive sample on every channel (R71). -/
def State.deliver (s : State) : State :=
  { s with gen := { s.gen with synths := PerChannel.of fun c =>
      { s.gen.synths.get c with drive := driveSample (s.gen.synths.get c) (s.channels.get c).mute } } }

/-- The compliance class of a window's ratio on a channel record: the new compliance state, qualifying count and
loss count (R87). -/
def Channel.classify (c : Channel) (ratio : Nat) : Channel :=
  if ratio < c.config.offThreshold then
    if c.lost then { c with qualifying := 0 }
    else if c.config.qualifying ≤ c.qualifying + 1 then
      { c with lost := true, qualifying := 0, losses := saturate 65535 (c.losses + 1) }
    else { c with qualifying := c.qualifying + 1 }
  else if ratio < c.config.onThreshold then { c with qualifying := 0 }
  else if c.lost then
    if c.config.qualifying ≤ c.qualifying + 1 then { c with lost := false, qualifying := 0 }
    else { c with qualifying := c.qualifying + 1 }
  else { c with qualifying := 0 }

/-- A feedback sample into a window: the window after it, and the sum of a window that it completes and that
yields an estimate (R85). -/
def Window.feed (w : Window) (samples : Nat) (feedback : BitVec 16) : Window × Option Nat :=
  let sum := w.sum + feedback.toInt.natAbs
  if w.taken + 1 < samples then ({ w with taken := w.taken + 1, sum := sum }, none)
  else ({ settling := false, taken := 0, sum := 0 }, if w.settling then none else some sum)

/-- A feedback sample into a channel record; a completed window is estimated against the applied amplitude and
classed (R85 to R87). -/
def Channel.feed (c : Channel) (y : Synth) (t : Tick) (feedback : BitVec 16) : Channel :=
  match c.window with
  | none => c
  | some w =>
    if c.fedAt = some t then c
    else
      let samples := windowSamples y.frequency
      let fed := { c with window := some (w.feed samples feedback).1, fedAt := some t }
      match (w.feed samples feedback).2 with
      | none => fed
      | some sum => fed.classify (levelRatio (levelEstimate sum c.config.range samples) y.applied)

/-- Take one channel's feedback sample at a generator instant, once: a compliance change raises CHANNEL and is
handed to the Assessment Unit with its decision tick (R87). -/
def State.feedChannel (s : State) (t : Tick) (c : Chan) (feedback : BitVec 16) : State :=
  let k := (s.channels.get c).feed (s.gen.synths.get c) t feedback
  if k.lost = (s.channels.get c).lost then { s with channels := s.channels.update c fun _ => k }
  else
    State.raiseChannelIf
      { s with channels := s.channels.update c fun _ => k
               shot := { s.shot with
                 changes := s.shot.changes ++ [{ channel := c, lost := k.lost, decision := t }] } } true

/-- The feedback sample of a channel completes a window that yields an estimate. -/
def State.completesWindow (s : State) (t : Tick) (c : Chan) : Bool :=
  match (s.channels.get c).window with
  | none => false
  | some w =>
    decide ((s.channels.get c).fedAt ≠ some t) && !w.settling
      && decide (windowSamples (s.gen.synths.get c).frequency ≤ w.taken + 1)

end Sys2Proof.Machine
end

