-- ==== Sys2Proof/Machine/LineEvents.lean ====
section
/-! DEFINITION. The events of the sampled lines: input samples, fault lines, and generator instants with their
drive and feedback samples. An event whose condition does not hold at its tick does not happen: nothing changes
but the time. -/

namespace Sys2Proof.Machine

/-- An event at a tick: where its condition holds once time has reached the tick, its effect takes place. -/
def State.happen (s : State) (t : Tick) (condition : State → Bool) (effect : State → State) : State :=
  if condition (s.advanceTo t) then effect (s.advanceTo t) else s.advanceTo t

/-! ## Input samples -/

/-- One input's sample disagrees with its qualification state (R99, R100). -/
def State.levelChanges (s : State) (t : Tick) (n : Inp) (closed : Bool) (volts : BitVec 9) : Bool :=
  t.isInputInstant && decide ((s.inputs.get n).sampledAt ≠ some t)
    && (s.inputs.get n).qualification.disagrees ((s.inputs.get n).sensedLevel closed volts)

/-- SENSED_LEVEL_CHANGE: the sample starts a run or cuts a pending one short (R96 to R104, R109). -/
def execSensedLevelChange (t : Tick) (n : Inp) (closed : Bool) (volts : BitVec 9) (s : State) :
    Host.Outcome State Fault Refusal :=
  .next <| s.happen t (fun k => k.levelChanges t n closed volts) fun k =>
    k.sampleOne t n ((k.inputs.get n).sensedLevel closed volts)

/-- The change one sample of a sensed level would qualify on an input. -/
def State.changeAt (s : State) (t : Tick) (n : Inp) (level : Bool) : InputChange :=
  (qualify (s.inputs.get n).config.samples t level (s.inputs.get n).qualification).2

/-- A sensed-active sample of an input qualifies an operate (R99). -/
def State.operatesAt (s : State) (t : Tick) (n : Inp) : Bool :=
  t.isInputInstant && decide ((s.inputs.get n).sampledAt ≠ some t)
    && match s.changeAt t n true with
      | .operated _ => true
      | _ => false

/-- OPERATE: the sensed-active sample that completes the run (R99, R101, R103, R106, R107). -/
def execOperate (t : Tick) (n : Inp) (s : State) : Host.Outcome State Fault Refusal :=
  .next <| s.happen t (fun k => k.operatesAt t n) fun k => k.sampleOne t n true

/-- A sensed-inactive sample of an input qualifies a release (R100). -/
def State.releasesAt (s : State) (t : Tick) (n : Inp) : Bool :=
  t.isInputInstant && decide ((s.inputs.get n).sampledAt ≠ some t)
    && match s.changeAt t n false with
      | .released _ => true
      | _ => false

/-- RELEASE: the sensed-inactive sample that completes the run (R100, R101, R103, R109). -/
def execRelease (t : Tick) (n : Inp) (s : State) : Host.Outcome State Fault Refusal :=
  .next <| s.happen t (fun k => k.releasesAt t n) fun k => k.sampleOne t n false

/-- INPUT_SAMPLE: the sample of every input not yet sampled at this instant (R96 to R109). -/
def execInputSample (t : Tick) (closed : BitVec 10) (volts : PerInput (BitVec 9)) (s : State) :
    Host.Outcome State Fault Refusal :=
  .next <| s.happen t (fun _ => t.isInputInstant) fun k => k.sampleAll t closed volts

/-! ## Amplifier fault lines -/

/-- A channel record at an assertion: mute, overload count and fitness (R89, steps 1 to 3). -/
def Channel.assertFault (t : Tick) (k : Channel) : Channel :=
  { k with faultLine := true, lineReadAt := t, mute := true, overloads := saturate 255 (k.overloads + 1)
           fit := k.fit && decide (saturate 255 (k.overloads + 1) < k.config.overloadLimit) }

/-- Report an amplifier fault to the Run Controller while PLAYING; the first report not yet acted on stands (R63,
R89, step 4). -/
def RunState.reportFault (r : RunState) (t : Tick) : RunState :=
  match r with
  | .playing p => .playing { p with fault := some (p.fault.getD t) }
  | _ => r

/-- A fault line may be found changed at a tick: an input sample instant later than its last reading known, which
after device reset is tick 0's (R89, R177). -/
def State.lineReadable (s : State) (t : Tick) (c : Chan) : Bool :=
  t.isInputInstant && decide ((s.channels.get c).lineReadAt ≠ t)

/-- AMPLIFIER_FAULT_ASSERTION: a sample finds a deasserted line asserted (R89, R94). -/
def execAmplifierFaultAssertion (t : Tick) (c : Chan) (s : State) : Host.Outcome State Fault Refusal :=
  .next <| s.happen t (fun k => k.lineReadable t c && !(k.channels.get c).faultLine) fun k =>
    State.raiseChannelIf
      { k with channels := k.channels.update c (Channel.assertFault t)
               run := { k.run with state := k.run.state.reportFault t } } true

/-- FAULT_LINE_DEASSERTION: the line is found deasserted; nothing is cleared (R89). -/
def execFaultLineDeassertion (t : Tick) (c : Chan) (s : State) : Host.Outcome State Fault Refusal :=
  .next <| s.happen t (fun k => k.lineReadable t c) fun k =>
    { k with channels := k.channels.update c fun r => { r with faultLine := false, lineReadAt := t } }

/-! ## Generator instants -/

/-- Take the feedback sample of every channel at an instant (R85). -/
def State.feedAll (s : State) (t : Tick) (feedback : PerChannel (BitVec 16)) : State :=
  Chan.all.foldl (fun k c => k.feedChannel t c (feedback.get c)) s

/-- GENERATOR_INSTANT: every accumulator is stepped, one drive sample is delivered on each channel, and one
feedback sample is taken from each (R67, R70, R71, R85). -/
def execGeneratorInstant (t : Tick) (feedback : PerChannel (BitVec 16)) (s : State) :
    Host.Outcome State Fault Refusal :=
  .next <| if t.isGeneratorInstant then ((s.atInstant t).deliver).feedAll t feedback else s.advanceTo t

/-- WINDOW_ESTIMATE: the feedback sample that completes a window yields an estimate, classed for compliance
(R85, R86, R87). -/
def execWindowEstimate (t : Tick) (c : Chan) (feedback : BitVec 16) (s : State) :
    Host.Outcome State Fault Refusal :=
  .next <| s.happen t (fun k => t.isGeneratorInstant && k.completesWindow t c) fun k => k.feedChannel t c feedback

end Sys2Proof.Machine
end

