-- ==== Sys2Proof/Machine/Operands.lean ====
section
/-! DEFINITION. The content checks of requests: a raw content becomes a record's content, or none where a field
is out of range or the content is inconsistent (BAD_VALUE). -/

namespace Sys2Proof.Machine

/-! ## States -/

/-- Every setting lies in its kind's amplitude range and in the angle and frequency ranges (R10). -/
def settingInRange (c : Chan) (s : ChannelSetting) : Bool :=
  s.amplitude ≤ c.kindMaximum && s.angle ≤ 35999 && 5000 ≤ s.frequency && s.frequency ≤ 500000

/-- The end condition of a code (R171). -/
def endConditionOf : Nat → Option EndCondition
  | 0 => some .time
  | 1 => some .input
  | _ => none

/-- The inception of a code and θ; θ is ignored under CONTINUOUS (R10). -/
def inceptionOf (code theta : Nat) : Option Inception :=
  match code with
  | 0 => some .continuous
  | 1 => if theta ≤ 35999 then some (.angle theta) else none
  | _ => none

/-- The content checks of a state (R10). -/
def checkState (r : RawState) : Option StateContent :=
  match endConditionOf r.endCondition, inceptionOf r.inception r.theta with
  | some e, some i =>
    if Chan.all.all (fun c => settingInRange c (r.settings.get c)) && r.outputs < 16
        && 100 ≤ r.duration && r.duration ≤ 600000000 then
      some { settings := r.settings, outputs := BitVec.ofNat 4 r.outputs, duration := r.duration
             endCondition := e, inception := i }
    else none
  | _, _ => none

/-! ## Characteristics -/

/-- The quantity of a code (R171). -/
def quantityOf : Nat → Option Quantity
  | 0 => some .phaseMax
  | 5 => some .i1
  | 6 => some .i2
  | 7 => some .i3
  | 8 => some .ix
  | _ => none

/-- Multiples rise strictly and times never rise along a breakpoint list (R26). -/
def breakpointsOrdered : List (Nat × Nat) → Bool
  | (m, t) :: (m', t') :: rest => m < m' && t' ≤ t && breakpointsOrdered ((m', t') :: rest)
  | _ => true

/-- The content checks of a characteristic (R26). -/
def checkCurve (r : RawCurve) : Option CurveContent :=
  match quantityOf r.quantity with
  | some q =>
    if 10 ≤ r.pickup && r.pickup ≤ 32000 && 2 ≤ r.breakpoints.length && r.breakpoints.length ≤ 24
        && r.breakpoints.all (fun b => 1000 ≤ b.1 && b.1 ≤ 65535 && 1000 ≤ b.2 && b.2 ≤ 600000000)
        && breakpointsOrdered r.breakpoints then
      some { quantity := q, pickup := r.pickup, breakpoints := r.breakpoints }
    else none
  | none => none

/-! ## Test points -/

/-- The start mode; the AT_TIME fields are ignored under IMMEDIATE (R6). -/
def startModeOf (r : RawPoint) : Option StartMode :=
  match r.startMode with
  | 0 => some .immediate
  | 1 =>
    if r.day ≤ 65535 && r.second ≤ 86399 && r.offset ≤ 999999 then some (.atTime r.day r.second r.offset)
    else none
  | _ => none

/-- The combine mode of a code (R171). -/
def combineOf : Nat → Option Combine
  | 0 => some .any
  | 1 => some .all
  | _ => none

/-- The interruption policy of a code (R171). -/
def policyOf : Nat → Option Policy
  | 0 => some .suspend
  | 1 => some .abort
  | _ => none

/-- The SHOT expectation; CURVE needs a present characteristic, and every expectation but NONE needs a
monitored input (R7). -/
def expectationOf (curves : Table Characteristic) (r : RawPoint) : Option Expectation :=
  match r.expectation with
  | 0 => some .none
  | 1 =>
    if 1000 ≤ r.expectedTime && r.expectedTime ≤ 600000000 && r.monitored ≠ 0 then some (.fixed r.expectedTime)
    else none
  | 2 =>
    if (curves.at? r.characteristic).isSome && r.monitored ≠ 0 then some (.curve r.characteristic) else none
  | 3 => if r.monitored ≠ 0 then some .noTrip else none
  | _ => none

/-- The kind maximum of a varied set: none where the set is empty, crosses the kinds or goes beyond IX (R8). -/
def variedMaximum (mask : Nat) : Option Nat :=
  if mask = 0 ∨ 256 ≤ mask then none
  else if mask < 16 then some Config.voltageMaximum
  else if mask % 16 = 0 then some Config.currentMaximum
  else none

/-- The search fields of a SEARCH test point (R8). -/
def searchParamsOf (r : RawPoint) : Option SearchParams :=
  match variedMaximum r.varied, policyOf r.policy with
  | some top, some policy =>
    if r.lower < r.upper && r.upper ≤ top && 1 ≤ r.resolution && r.resolution ≤ top
        && 3 ≤ r.maximumShots && r.maximumShots ≤ 40 && r.boundary ≤ top && r.searchPercent ≤ 250
        && r.searchAbsolute ≤ top && r.monitored ≠ 0 && r.startMode = 0 then
      some { varied := BitVec.ofNat 8 r.varied, lower := r.lower, upper := r.upper, resolution := r.resolution
             maximumShots := r.maximumShots, policy := policy, boundary := r.boundary
             tolerancePercent := r.searchPercent, toleranceAbsolute := r.searchAbsolute }
    else none
  | _, _ => none

/-- The kind with its own fields (R7, R8). -/
def kindOf (curves : Table Characteristic) (r : RawPoint) : Option Kind :=
  match r.kind with
  | 0 =>
    match expectationOf curves r with
    | some e =>
      if r.tolerancePercent ≤ 250 && r.toleranceAbsolute ≤ 1000000 then
        some (.shot e r.tolerancePercent r.toleranceAbsolute)
      else none
    | none => none
  | 1 => (searchParamsOf r).map .search
  | _ => none

/-- The content checks of a test point against the states and characteristics present (R6, R7, R8). -/
def checkPoint (states : Table StateRecord) (curves : Table Characteristic) (r : RawPoint) :
    Option PointContent :=
  match startModeOf r, combineOf r.combine, kindOf curves r with
  | some start, some combine, some kind =>
    if r.tag ≠ 0 && r.tag < 2 ^ 32 && 1 ≤ r.states.length && r.states.length ≤ 8
        && r.states.all (fun h => (states.at? h).isSome)
        && 1 ≤ r.faultPosition && r.faultPosition ≤ r.states.length && r.monitored < 1024 then
      some { tag := r.tag, kind := kind, states := r.states, faultPosition := r.faultPosition, start := start
             monitored := BitVec.ofNat 10 r.monitored, combine := combine }
    else none
  | _, _, _ => none

/-! ## Channels, inputs, run setup and time -/

/-- The three ranges of a channel's kind (R69). -/
def rangeAllowed (c : Chan) (range : Nat) : Bool :=
  if c.isVoltage then range = 7500 || range = 15000 || range = 30000
  else range = 2000 || range = 8000 || range = 32000

/-- The value checks of CHAN_SET (R82). -/
def checkChannel (c : Chan) (r : RawChannelConfig) : Option ChannelConfig :=
  if rangeAllowed c r.range && 500 ≤ r.offThreshold && r.offThreshold ≤ 990
      && r.offThreshold + 10 ≤ r.onThreshold && r.onThreshold ≤ 1000
      && 1 ≤ r.qualifying && r.qualifying ≤ 16 && 1 ≤ r.overloadLimit && r.overloadLimit ≤ 255 then
    some { range := r.range, offThreshold := r.offThreshold, onThreshold := r.onThreshold
           qualifying := r.qualifying, overloadLimit := r.overloadLimit }
  else none

/-- The mode of an input; thresholds are checked and held in WET mode only (R110). -/
def inputModeOf (r : RawInputConfig) : Option InputMode :=
  match r.mode with
  | 0 => some .dry
  | 1 =>
    if 5 ≤ r.onThreshold && r.onThreshold ≤ 300 && r.offThreshold < r.onThreshold then
      some (.wet r.onThreshold r.offThreshold)
    else none
  | _ => none

/-- The value checks of INPUT_SET (R110). -/
def checkInput (r : RawInputConfig) : Option InputConfig :=
  match inputModeOf r with
  | some mode =>
    if 1 ≤ r.samples && r.samples ≤ 100 && r.polarity < 2 then
      some { mode := mode, samples := r.samples, inverted := r.polarity = 1 }
    else none
  | none => none

/-- The schedule policy of a code (R171). -/
def schedulePolicyOf : Nat → Option SchedulePolicy
  | 0 => some .lockedOnly
  | 1 => some .holdoverOk
  | _ => none

/-- The value checks of RUN_SETUP (R60). -/
def checkSetup (restInterval resetWait policy : Nat) : Option RunSetup :=
  match schedulePolicyOf policy with
  | some p =>
    if restInterval ≤ 60000 && resetWait ≤ 60000 then
      some { restInterval := restInterval, resetWait := resetWait, policy := p }
    else none
  | none => none

/-- The value checks of TIME_SET (R156). -/
def timeSetInRange (window missedLimit holdoverLimit : Nat) : Bool :=
  20 ≤ window && window ≤ 1000 && (missedLimit = 1 || missedLimit = 4)
    && 1 ≤ holdoverLimit && holdoverLimit ≤ 300

end Sys2Proof.Machine
end

