-- ==== Sys2Proof/Machine/Seconds.lean ====
section
/-! DEFINITION. The shared operations of the Timebase: windows, the label, the interval history, changes of lock,
their report to a waiting test point, and the start tick. -/

namespace Sys2Proof.Machine

/-! ## Windows and intervals -/

/-- A tick lies in the window of half-width W about a centre (R149). -/
def inWindow (window : Nat) (centre t : Tick) : Bool :=
  decide (Tick.elapsed (centre - BitVec.ofNat 48 window) t ≤ 2 * window)

/-- A window has closed at a tick: the tick lies after its upper end (R149). -/
def windowClosed (window : Nat) (centre t : Tick) : Bool :=
  Tick.reached (centre + BitVec.ofNat 48 (window + 1)) t

/-- The measured interval of a Timebase; the nominal second stands in where the history is empty, which no
LOCKED or HOLDOVER Timebase that a run reaches has (R152). -/
def Timebase.interval (b : Timebase) : Nat := (meanInterval b.history).getD Config.nominalSecond

/-- The tick one measured interval after the reference edge (R150, R151). -/
def Timebase.expectedEdge (b : Timebase) (reference : Tick) : Tick := reference + BitVec.ofNat 48 b.interval

/-- An interval joins the history, which holds the last four (R152). -/
def joinHistory (history : List Nat) (interval : Nat) : List Nat :=
  if history.length < 4 then history ++ [interval] else history.tail ++ [interval]

/-! ## The label -/

/-- The second edge labels or advances the label; a restart pulse without a message makes it unknown (R153). -/
def Timebase.moveLabel (b : Timebase) (restart : Bool) : Timebase :=
  match b.held with
  | some m => { b with label := some m, held := none }
  | none => { b with label := if restart then none else b.label.map Label.next }

/-- The held message relabels a known label off sequence (R153). The quality byte plays no part (R155).
DEDUCED (log entry 17; unsafe). -/
def Timebase.stepsLabel (b : Timebase) : Bool :=
  match b.held, b.label with
  | some m, some l => decide ((m.day, m.second) ≠ (l.next.day, l.next.second))
  | _, _ => false

/-- A second edge: the label moves, TIME_STEP is set when it steps, and the edge becomes the reference edge
(R148, R153). -/
def Timebase.secondEdge (b : Timebase) (kind : EdgeKind) (edge : Tick) (restart : Bool) : Timebase :=
  { b.moveLabel restart with
    timeStep := b.timeStep || b.stepsLabel
    reference := some edge
    referenceKind := kind
    referenceClosed := false }

/-- Entry to FREE (R149, R151, R152). DEDUCED (log entry 19; unsafe): the missed count is kept. -/
def Timebase.toFree (b : Timebase) : Timebase :=
  { b with lock := .free, acquisition := 0, reference := none, history := [], holdoverEntry := none
           label := none }

/-! ## Reports to a waiting test point -/

/-- A second edge as reported in START_WAIT: its kind and edge tick (R158). -/
structure EdgeReport where
  kind : EdgeKind
  edge : Tick
  deriving DecidableEq, Repr

/-- The lock state gives TIME_LOST to a wait (R160). -/
def lockLost (policy : SchedulePolicy) (lock : Lock) : Bool :=
  match lock with
  | .free => true
  | .acquiring => true
  | .locked => false
  | .holdover => policy = .lockedOnly

/-- The start tick and start skew of a start edge (R161). -/
def startTickOf (edge : Tick) (offset interval : Nat) : Tick × Nat :=
  let sum := edge + BitVec.ofNat 48 (convertedOffset offset interval)
  (Tick.instantAtOrAfter sum, Tick.elapsed sum (Tick.instantAtOrAfter sum))

/-- A wait on a second edge labelled by the Timebase: earlier seconds are waited through, a later one gives
TIME_LOST, and the start edge gives the start tick, or TIME_LOST when it is a missed edge under LOCKED_ONLY, or a
missed or predicted edge whose start tick is not later than `t`, at which it is established (R160). -/
def StartWait.onEdge (w : StartWait) (b : Timebase) (start : StartMode) (e : EdgeReport) (t : Tick) : StartWait :=
  match start, b.label, w.start with
  | .atTime day second offset, some l, none =>
    let lead := leadOver (secondCount day second) (secondCount l.day l.second)
    if 0 < lead then w
    else if lead < 0 then { w with lost := some t }
    else if e.kind = .missed ∧ w.policy = .lockedOnly then { w with lost := some t }
    else
      let s := startTickOf e.edge offset b.interval
      if e.kind = .pulse ∨ Tick.before t s.1 then { w with start := some s } else { w with lost := some t }
  | _, _, _ => w

/-- Report a lock change and a second edge to the Run Controller in START_WAIT; the first report that gives
TIME_LOST stands (R158, R160). -/
def State.reportToWait (s : State) (changed : Bool) (edge : Option EdgeReport) (t : Tick) : State :=
  match s.run.state, s.activePoint with
  | .startWait w, some (_, p) =>
    if w.lost.isSome then s
    else if changed && lockLost w.policy s.time.lock then s.setRun (.startWait { w with lost := some t })
    else match edge with
      | none => s
      | some e => s.setRun (.startWait (w.onEdge s.time p.content.start e t))
  | _, _ => s

/-- Put a new Timebase state in force: a change of lock and a setting of TIME_STEP raise TIME, and a waiting test
point hears of the change and of the edge (R158). `stepped` says that TIME_STEP was set. -/
def State.setTimebase (s : State) (b : Timebase) (stepped : Bool) (edge : Option EdgeReport) (t : Tick) : State :=
  let changed := decide (s.time.lock ≠ b.lock)
  let timed := { s with time := b }
  (if changed || stepped then timed.raiseTime else timed).reportToWait changed edge t

/-! ## Pulses -/

/-- A pulse taken in FREE (R149). -/
def Timebase.pulseFree (b : Timebase) (t : Tick) : Timebase :=
  { b.secondEdge .pulse t false with lock := .acquiring, acquisition := 1 }

/-- A pulse inside the ACQUIRING window (R149). -/
def Timebase.pulseAcquired (b : Timebase) (reference t : Tick) : Timebase :=
  let joined := { b.secondEdge .pulse t false with history := joinHistory b.history (Tick.elapsed reference t) }
  if 4 ≤ b.acquisition + 1 then { joined with lock := .locked, acquisition := 0, missed := 0 }
  else { joined with acquisition := b.acquisition + 1 }

/-- A restart pulse, outside the window in ACQUIRING or outside every window in HOLDOVER (R149, R151). -/
def Timebase.pulseRestart (b : Timebase) (t : Tick) : Timebase :=
  { b.secondEdge .pulse t true with lock := .acquiring, acquisition := 1, holdoverEntry := none }

/-- A pulse accepted in LOCKED: its interval joins when the reference before it was a pulse and the interval lies
within W of a second (R150). -/
def Timebase.pulseAccepted (b : Timebase) (reference t : Tick) : Timebase :=
  let interval := Tick.elapsed reference t
  let joins := decide (b.referenceKind = .pulse) && decide (Config.nominalSecond - b.window ≤ interval)
    && decide (interval ≤ Config.nominalSecond + b.window)
  { b.secondEdge .pulse t false with
    missed := 0
    history := if joins then joinHistory b.history interval else b.history }

/-- A pulse in HOLDOVER before the next predicted edge is established: accepted as the second edge (R151). -/
def Timebase.pulseRegained (b : Timebase) (t : Tick) : Timebase :=
  { b.secondEdge .pulse t false with lock := .locked, missed := 0, holdoverEntry := none }

/-- A pulse in HOLDOVER at or after its predicted edge: the label is not moved again (R151). -/
def Timebase.pulseAfterPredicted (b : Timebase) (t : Tick) : Timebase :=
  { b with lock := .locked, missed := 0, holdoverEntry := none, reference := some t, referenceKind := .pulse
           referenceClosed := false }

/-- What a pulse is taken as (R149 to R151). -/
inductive PulseUse where
  /-- A second edge giving this Timebase. -/
  | edge (b : Timebase)
  /-- Not a second edge: it gives this Timebase. -/
  | quiet (b : Timebase)
  deriving DecidableEq, Repr

/-- The reference edge is a predicted edge whose window is open and holds a tick at or after it (R151). -/
def Timebase.afterPredicted (b : Timebase) (reference t : Tick) : Bool :=
  decide (b.referenceKind = .predicted) && !b.referenceClosed && decide (Tick.elapsed reference t ≤ b.window)

/-- A pulse taken by the lock machine (R148 to R151). -/
def Timebase.takePulse (b : Timebase) (t : Tick) : PulseUse :=
  match b.lock, b.reference with
  | .free, _ => .edge (b.pulseFree t)
  | .acquiring, some r =>
    if inWindow b.window (r + BitVec.ofNat 48 Config.nominalSecond) t then .edge (b.pulseAcquired r t)
    else .edge (b.pulseRestart t)
  | .acquiring, none => .edge (b.pulseRestart t)
  | .locked, some r =>
    if inWindow b.window (b.expectedEdge r) t then .edge (b.pulseAccepted r t)
    else .quiet { b with spurious := saturate 65535 (b.spurious + 1) }
  | .locked, none => .quiet { b with spurious := saturate 65535 (b.spurious + 1) }
  | .holdover, some r =>
    if inWindow b.window (b.expectedEdge r) t then .edge (b.pulseRegained t)
    else if b.afterPredicted r t then .quiet (b.pulseAfterPredicted t)
    else .edge (b.pulseRestart t)
  | .holdover, none => .edge (b.pulseRestart t)

/-! ## Edges without a pulse -/

/-- The LOCKED window closed with no pulse: the expected edge becomes a missed edge, and the missed limit brings
HOLDOVER, entered at the tick the window closed (R150). -/
def Timebase.missEdge (b : Timebase) (edge t : Tick) : Timebase :=
  let moved := { b.secondEdge .missed edge false with missed := b.missed + 1 }
  if b.missedLimit ≤ b.missed + 1 then { moved with lock := .holdover, holdoverEntry := some t } else moved

/-- The holdover limit has elapsed at a tick (R151). -/
def Timebase.holdoverElapsed (b : Timebase) (t : Tick) : Bool :=
  match b.holdoverEntry with
  | none => false
  | some entry => Tick.reached (entry + BitVec.ofNat 48 (1000000 * b.holdoverLimit)) t

/-- FREE on the elapsing of the holdover limit: the missed count becomes 0 as well (R151). -/
def Timebase.loseHoldover (b : Timebase) : Timebase := { b.toFree with missed := 0 }

/-! ## Time messages -/

/-- One more discard, saturating (R154). -/
def Timebase.discard (b : Timebase) : Timebase := { b with discards := saturate 65535 (b.discards + 1) }

/-- The label of an accepted content: exactly 8 bytes, a good check and a second of day in range (R155). -/
def labelOf (content : List Byte) : Option Label :=
  let label : Label :=
    { day := fieldAt content 0 2, second := fieldAt content 2 3, quality := fieldAt content 5 1 }
  if content.length = 8 ∧ (crcOf (content.take 6)).toNat = fieldAt content 6 2 ∧ label.second ≤ 86399 then
    some label
  else none

/-- A message that ended at a flag without being discarded is checked; an accepted one becomes the held message,
and the one it replaces is counted as discarded (R155). An empty message is ignored (R154). -/
def Timebase.endMessage (b : Timebase) (content : List Byte) : Timebase :=
  if content = [] then b
  else match labelOf content with
    | none => b.discard
    | some l =>
      match b.held with
      | none => { b with held := some l }
      | some _ => { b.discard with held := some l }

/-- The message in progress: content so far, characters so far, and whether an escape stands open (R154). -/
structure Assembly where
  content : List Byte
  characters : Nat
  escaped : Bool
  deriving DecidableEq, Repr

/-- The message in progress right after a flag. -/
def Assembly.empty : Assembly := { content := [], characters := 0, escaped := false }

/-- The flag byte (R154). -/
def flagByte : Byte := 0x7E

/-- The escape byte (R154). -/
def escapeByte : Byte := 0x7D

/-- Characters through the receiver (R154): a flag ends the message in progress and begins a new one; escapes
are removed; the 25th character between flags discards the message; an escape followed by a flag discards it at
that flag. Content bytes are gathered newest first. -/
def Timebase.receive (b : Timebase) (a : Assembly) : List Byte → Timebase
  | [] => b
  | ch :: rest =>
    if ch = flagByte then
      let ended :=
        if b.receiver = .message then (if a.escaped then b.discard else b.endMessage a.content.reverse) else b
      Timebase.receive { ended with receiver := .message } Assembly.empty rest
    else if b.receiver ≠ .message then Timebase.receive b a rest
    else if 24 ≤ a.characters then Timebase.receive { b.discard with receiver := .ignoring } Assembly.empty rest
    else if a.escaped then
      Timebase.receive b { content := (ch ^^^ 0x20) :: a.content, characters := a.characters + 1, escaped := false } rest
    else if ch = escapeByte then Timebase.receive b { a with characters := a.characters + 1, escaped := true } rest
    else Timebase.receive b { a with content := ch :: a.content, characters := a.characters + 1 } rest

/-- The message in progress is discarded and characters are ignored until the next flag; where no message is in
progress nothing is discarded (R154). -/
def Timebase.abandonMessage (b : Timebase) : Timebase :=
  if b.receiver = .message then { b.discard with receiver := .ignoring } else b

end Sys2Proof.Machine
end

