-- ==== Sys2Proof/Machine/Payload.lean ====
section
/-! DEFINITION. The payloads of responses, field by field in the order of the command tables (R171), and the
result record (R173). A field a record holds as absent is sent as 0. -/

namespace Sys2Proof.Machine

/-- An absent value is sent as 0. -/
def orZero (v : Option Nat) : Nat := v.getD 0

/-! ## Records of the Plan Store -/

/-- State content, 65 bytes (R171). -/
def StateContent.payload (c : StateContent) : List Byte :=
  (Chan.all.flatMap fun ch =>
    bytesOf 2 (c.settings.get ch).amplitude ++ bytesOf 2 (c.settings.get ch).angle
      ++ bytesOf 3 (c.settings.get ch).frequency)
  ++ bytesOf 1 c.outputs.toNat ++ bytesOf 4 c.duration ++ bytesOf 1 c.endCondition.code
  ++ match c.inception with
    | .continuous => bytesOf 1 0 ++ bytesOf 2 0
    | .angle theta => bytesOf 1 1 ++ bytesOf 2 theta

/-- Curve content, 4 + 6n bytes (R171). -/
def CurveContent.payload (c : CurveContent) : List Byte :=
  bytesOf 1 c.quantity.code ++ bytesOf 2 c.pickup ++ bytesOf 1 c.breakpoints.length
  ++ c.breakpoints.flatMap fun b => bytesOf 2 b.1 ++ bytesOf 4 b.2

/-- The start mode, day, second of day and offset (R171).
DEDUCED (log entry 22; unsafe): 0 where it does not apply. -/
def StartMode.payload : StartMode → List Byte
  | .immediate => bytesOf 1 0 ++ bytesOf 2 0 ++ bytesOf 3 0 ++ bytesOf 3 0
  | .atTime day second offset => bytesOf 1 1 ++ bytesOf 2 day ++ bytesOf 3 second ++ bytesOf 3 offset

/-- SHOT expectation, expected time and characteristic handle (R171). -/
def Expectation.payload : Expectation → List Byte
  | .none => bytesOf 1 0 ++ bytesOf 4 0 ++ bytesOf 1 0
  | .fixed time => bytesOf 1 1 ++ bytesOf 4 time ++ bytesOf 1 0
  | .curve h => bytesOf 1 2 ++ bytesOf 4 0 ++ bytesOf 1 h
  | .noTrip => bytesOf 1 3 ++ bytesOf 4 0 ++ bytesOf 1 0

/-- The fields from the SHOT expectation to the search absolute tolerance; those of the other kind are 0 (R171). -/
def Kind.payload : Kind → List Byte
  | .shot e percent absolute =>
    e.payload ++ bytesOf 1 percent ++ bytesOf 4 absolute ++ bytesOf 14 0
  | .search p =>
    Expectation.none.payload ++ bytesOf 1 0 ++ bytesOf 4 0
    ++ bytesOf 1 p.varied.toNat ++ bytesOf 2 p.lower ++ bytesOf 2 p.upper ++ bytesOf 2 p.resolution
    ++ bytesOf 1 p.maximumShots ++ bytesOf 1 p.policy.code ++ bytesOf 2 p.boundary
    ++ bytesOf 1 p.tolerancePercent ++ bytesOf 2 p.toleranceAbsolute

/-- The code of a kind (R171). -/
def Kind.code : Kind → Nat
  | .shot _ _ _ => 0
  | .search _ => 1

/-- Point content, 44 + n bytes (R171). -/
def PointContent.payload (c : PointContent) : List Byte :=
  bytesOf 4 c.tag ++ bytesOf 1 c.kind.code ++ bytesOf 1 c.faultPosition ++ c.start.payload
  ++ bytesOf 2 c.monitored.toNat ++ bytesOf 1 c.combine.code ++ c.kind.payload
  ++ bytesOf 1 c.states.length ++ c.states.flatMap (bytesOf 1)

/-- Context present, phase, current L, current U and shots used (R21, R171). -/
def contextPayload : Option SearchContext → List Byte
  | none => byteOf false ++ bytesOf 6 0
  | some c =>
    byteOf true ++ bytesOf 1 c.phase.code ++ bytesOf 2 c.lower ++ bytesOf 2 c.upper ++ bytesOf 1 c.shotsUsed

/-- The payload of POINT_GET (R21). -/
def TestPoint.payload (p : TestPoint) : List Byte :=
  bytesOf 1 p.editLevel ++ p.content.payload ++ bytesOf 1 p.status.code ++ contextPayload p.context
  ++ bytesOf 1 (bitsOf [(p.result.isSome, 1), (p.unread, 2)])

/-- One test point's two bytes of POINT_LIST (R23). -/
def listPayload (e : Nat × TestPoint) : List Byte :=
  bytesOf 1 e.1 ++ bytesOf 1 (e.2.status.code + bitsOf [(e.2.result.isSome, 4), (e.2.unread, 8)])

/-! ## The result record -/

/-- The flags byte (chapter Serial Command Port, Result record). -/
def ResultFlags.byte (f : ResultFlags) : Nat :=
  bitsOf [(f.prefault, 1), (f.clamped, 2), (f.compliance, 4), (f.shortWindow, 8), (f.timeHoldover, 16),
    (f.stale, 32), (f.unread, 64)]

/-- The boundary of a result, where it has one. -/
def Result.boundary? (r : Result) : Option Nat := r.search.bind fun f => f.boundary

/-- The presence byte (chapter Serial Command Port, Result record). -/
def Result.presence (r : Result) : Nat :=
  bitsOf [(r.reason.isSome, 1), (r.measured.isSome, 2), (r.expected.isSome, 4), (r.multiple.isSome, 8),
    (r.revision.isSome, 16), (r.skew.isSome, 32), (r.boundary?.isSome, 64), (r.search.isSome, 128)]

/-- A time of the operated-inputs list in its four bytes; what they hold above 4,294,967,295 the manual does not say,
and it is a free value. DESIGN CHOICE (log entry 31; safe). -/
def listTimePayload (time : Nat) : List Byte :=
  bytesOf 4 (if time < 2 ^ 32 then time else (Config.overlongTime time).toNat)

/-- An entry of the operated-inputs list, 9 bytes (R173). -/
def OperatedEntry.payload (e : OperatedEntry) : List Byte :=
  bytesOf 1 (e.input.number + bitsOf [(e.release.isSome, 128)]) ++ listTimePayload e.operate
  ++ listTimePayload (orZero e.release)

/-- The result record as RESULT_GET returns it (R173). -/
def Result.payload (r : Result) : List Byte :=
  bytesOf 1 r.verdict.code ++ bytesOf 1 (orZero (r.reason.map AbortReason.code)) ++ bytesOf 1 r.flags.byte
  ++ bytesOf 1 r.presence ++ bytesOf 1 r.runCount ++ bytesOf 1 (orZero r.skew) ++ bytesOf 4 (orZero r.measured)
  ++ bytesOf 4 (orZero (r.expected.map fun e => e.time)) ++ bytesOf 4 (orZero (r.expected.map fun e => e.low))
  ++ bytesOf 4 (orZero (r.expected.map fun e => e.high)) ++ bytesOf 2 (orZero r.multiple)
  ++ bytesOf 2 (orZero r.revision) ++ bytesOf 2 (orZero (r.search.map fun f => f.lower))
  ++ bytesOf 2 (orZero (r.search.map fun f => f.upper)) ++ bytesOf 2 (orZero r.boundary?)
  ++ bytesOf 1 (orZero (r.search.map fun f => f.shotsUsed)) ++ bytesOf 1 r.operated.length
  ++ r.operated.flatMap OperatedEntry.payload

/-! ## Run, channel, input and time -/

/-- The run setup, 5 bytes. -/
def RunSetup.payload (r : RunSetup) : List Byte :=
  bytesOf 2 r.restInterval ++ bytesOf 2 r.resetWait ++ bytesOf 1 r.policy.code

/-- The payload of QUEUE_GET (R46). -/
def RunController.payload (r : RunController) : List Byte :=
  bytesOf 1 r.queue.length ++ r.queue.flatMap (fun e => bytesOf 1 (e.handle + bitsOf [(e.marked, 128)]))
  ++ bytesOf 1 (orZero r.active) ++ bytesOf 1 r.state.code ++ byteOf r.hold ++ r.setup.payload

/-- The five values of a channel configuration, 8 bytes. -/
def ChannelConfig.payload (c : ChannelConfig) : List Byte :=
  bytesOf 2 c.range ++ bytesOf 2 c.offThreshold ++ bytesOf 2 c.onThreshold ++ bytesOf 1 c.qualifying
  ++ bytesOf 1 c.overloadLimit

/-- A pending configuration: present, then its values or zeros. -/
def pendingPayload {α : Type} (width : Nat) (payload : α → List Byte) : Option α → List Byte
  | none => byteOf false ++ bytesOf width 0
  | some c => byteOf true ++ payload c

/-- The payload of CHAN_GET, 24 bytes (R84). DESIGN CHOICE (log entry 34; unsafe): a fault line level is sent as 1
where the line is asserted, the mute flag as 1 where it is set. -/
def Channel.payload (c : Channel) : List Byte :=
  c.config.payload ++ pendingPayload 8 ChannelConfig.payload c.pending ++ byteOf c.mute ++ byteOf c.faultLine
  ++ byteOf c.lost ++ bytesOf 1 c.overloads ++ bytesOf 2 c.losses ++ byteOf (!c.fit)

/-- Mode, on threshold and off threshold. -/
def InputMode.payload : InputMode → List Byte
  | .dry => bytesOf 1 0 ++ bytesOf 2 0 ++ bytesOf 2 0
  | .wet on off => bytesOf 1 1 ++ bytesOf 2 on ++ bytesOf 2 off

/-- An input configuration, 7 bytes. -/
def InputConfig.payload (c : InputConfig) : List Byte :=
  c.mode.payload ++ bytesOf 1 c.samples ++ byteOf c.inverted

/-- A tick or 0. -/
def tickPayload (t : Option Tick) : List Byte := bytesOf 6 (orZero (t.map BitVec.toNat))

/-- The payload of INPUT_GET (R112). DESIGN CHOICE (log entry 34; unsafe): the sensed level is sent as 1 where it is
active. -/
def Input.payload (i : Input) (idle : BitVec 4) : List Byte :=
  i.config.payload ++ pendingPayload 7 InputConfig.payload i.pending ++ byteOf i.sensed
  ++ bytesOf 1 i.qualification.code ++ bytesOf 1 i.qualification.run ++ tickPayload i.entry.operate
  ++ tickPayload i.entry.release
  ++ bytesOf 1 (bitsOf [(i.entry.operate.isSome, 1), (i.entry.release.isSome, 2), (i.entry.standing, 4)])
  ++ bytesOf 1 i.entry.bounces ++ bytesOf 1 idle.toNat

/-- Label known, day, second of day and quality. -/
def labelPayload : Option Label → List Byte
  | none => byteOf false ++ bytesOf 6 0
  | some l => byteOf true ++ bytesOf 2 l.day ++ bytesOf 3 l.second ++ bytesOf 1 l.quality

/-- The payload of TIME_GET (R157). -/
def Timebase.payload (b : Timebase) (tick : Tick) : List Byte :=
  bytesOf 6 tick.toNat ++ bytesOf 1 b.lock.code ++ bytesOf 1 b.acquisition ++ bytesOf 1 b.missed
  ++ bytesOf 2 b.window ++ bytesOf 1 b.missedLimit ++ bytesOf 2 b.holdoverLimit ++ labelPayload b.label
  ++ byteOf b.reference.isSome ++ tickPayload b.reference ++ bytesOf 4 (orZero (meanInterval b.history))
  ++ bytesOf 1 b.history.length ++ byteOf b.held.isSome ++ bytesOf 2 b.spurious ++ bytesOf 2 b.discards
  ++ byteOf b.timeStep

end Sys2Proof.Machine
end

