-- ==== Sys2Proof/Machine/PlanCommands.lean ====
section
/-! DEFINITION. The Plan Store's requests: test points, states, characteristics, results and the link authority
level. Checks stand in the order of R2; the first that fails decides the result code. -/

namespace Sys2Proof.Machine

/-- The edit level a record is stored with: the larger of the requested level and the level in force (R5). -/
def storedLevel (requested level : Nat) : Nat := max requested level

/-- Run a request on the present record at a handle: BAD_HANDLE, then ABSENT (R2, checks 1 and 2). -/
def State.onRecord {α : Type} (s : State) (t : Table α) (size h : Nat) (act : α → State) : State :=
  if h = 0 ∨ size < h then s.refuse .badHandle
  else match t.at? h with
    | none => s.refuse .absent
    | some r => act r

/-- A tag is held by a present test point other than the one at a handle (R9). -/
def State.tagHeld (s : State) (tag except : Nat) : Bool :=
  s.points.any fun e => decide (e.1 ≠ except) && decide (e.2.content.tag = tag)

/-! ## Test points -/

/-- The test point POINT_NEW stores (R12). -/
def newPoint (edit : Nat) (c : PointContent) : TestPoint :=
  { editLevel := edit, content := c, status := .idle, context := none, result := none }

/-- POINT_NEW (R12). -/
def execPointNew (edit : Nat) (content : RawPoint) (s : State) : Host.Outcome State Fault Refusal :=
  .next <|
    if 2 < edit then s.refuse .badValue
    else match checkPoint s.states s.curves content with
      | none => s.refuse .badValue
      | some c =>
        if s.tagHeld c.tag 0 then s.refuse .duplicateTag
        else match s.points.lowestAbsent Config.pointEntries with
          | none => s.refuse .full
          | some h =>
            ({ s with points := s.points.put h (newPoint (storedLevel edit s.level) c) }.addReferences c).accept
              (bytesOf 1 h)

/-- POINT_SET (R15). -/
def execPointSet (handle : Nat) (content : RawPoint) (s : State) : Host.Outcome State Fault Refusal :=
  .next <| s.onRecord s.points Config.pointEntries handle fun p =>
    if p.editLevel < s.level then s.refuse .denied
    else if p.status ≠ .idle then s.refuse .busy
    else match checkPoint s.states s.curves content with
      | none => s.refuse .badValue
      | some c =>
        if s.tagHeld c.tag handle then s.refuse .duplicateTag
        else
          (((s.changePoint handle fun q => { q.markStale with content := c }).removeReferences
            p.content).addReferences c).accept []

/-- POINT_GET (R21). -/
def execPointGet (handle : Nat) (s : State) : Host.Outcome State Fault Refusal :=
  .next <| s.onRecord s.points Config.pointEntries handle fun p => s.accept p.payload

/-- The handle of the present test point that holds a tag (R22). -/
def State.findTag (s : State) (tag : Nat) : Option Nat :=
  (s.points.find? fun e => e.2.content.tag = tag).map Prod.fst

/-- POINT_FIND (R22). -/
def execPointFind (tag : Nat) (s : State) : Host.Outcome State Fault Refusal :=
  .next <|
    if tag = 0 then s.refuse .badValue
    else match s.findTag tag with
      | none => s.refuse .absent
      | some h => s.accept (bytesOf 1 h)

/-- POINT_LIST (R23). -/
def execPointList (s : State) : Host.Outcome State Fault Refusal :=
  .next <| s.accept (bytesOf 1 s.points.length ++ s.points.flatMap listPayload)

/-- POINT_DROP (R19). -/
def execPointDrop (handle : Nat) (s : State) : Host.Outcome State Fault Refusal :=
  .next <| s.onRecord s.points Config.pointEntries handle fun p =>
    if p.editLevel < s.level then s.refuse .denied
    else if p.status ≠ .idle then s.refuse .busy
    else ({ s with points := s.points.drop handle }.removeReferences p.content).accept []

/-! ## States -/

/-- The state record a create stores (R12). -/
def newState (edit : Nat) (c : StateContent) : StateRecord := { editLevel := edit, content := c, refCount := 0 }

/-- Create one state: BAD_VALUE, then FULL, else the new handle and the pool with it (R10, R12). -/
def State.createState (s : State) (edit : Nat) (content : RawState) : Except ResultCode (Nat × State) :=
  if 2 < edit then .error .badValue
  else match checkState content with
    | none => .error .badValue
    | some c =>
      match s.states.lowestAbsent Config.stateEntries with
      | none => .error .full
      | some h => .ok (h, { s with states := s.states.put h (newState (storedLevel edit s.level) c) })

/-- STATE_NEW (R10, R12). -/
def execStateNew (edit : Nat) (content : RawState) (s : State) : Host.Outcome State Fault Refusal :=
  .next <| match s.createState edit content with
    | .error code => s.refuse code
    | .ok (h, made) => made.accept (bytesOf 1 h)

/-- Take the entries of STATE_LOAD in order up to the first that fails: the state reached, the handles created,
and the code and number of entries not created where one failed (R13). -/
def State.loadStates (s : State) : List (Nat × RawState) → State × List Nat × Option (ResultCode × Nat)
  | [] => (s, [], none)
  | (edit, content) :: rest =>
    match s.createState edit content with
    | .error code => (s, [], some (code, rest.length + 1))
    | .ok (h, made) =>
      let later := made.loadStates rest
      (later.1, h :: later.2.1, later.2.2)

/-- STATE_LOAD (R13). -/
def execStateLoad (count : Nat) (entries : List (Nat × RawState)) (s : State) :
    Host.Outcome State Fault Refusal :=
  .next <|
    if count = 0 ∨ 3 < count then s.refuse .badValue
    else
      let (made, handles, failure) := s.loadStates (entries.take count)
      match failure, handles with
      | none, _ => made.accept (handles.flatMap (bytesOf 1))
      | some (code, _), [] => made.refuse code
      | some (code, missing), _ =>
        made.respond .partly (handles.flatMap (bytesOf 1) ++ bytesOf 1 missing ++ bytesOf 1 code.code)

/-- A state is listed by a test point that is ACTIVE or SUSPENDED (R16). -/
def State.stateInUse (s : State) (handle : Nat) : Bool :=
  s.points.any fun e =>
    e.2.content.states.contains handle && (decide (e.2.status = .active) || decide (e.2.status = .suspended))

/-- Mark STALE the results of the test points that list a state (R24). -/
def State.staleByState (s : State) (handle : Nat) : State :=
  { s with points := s.points.changeAll fun _ p => if p.content.states.contains handle then p.markStale else p }

/-- STATE_SET (R16). -/
def execStateSet (handle : Nat) (content : RawState) (s : State) : Host.Outcome State Fault Refusal :=
  .next <| s.onRecord s.states Config.stateEntries handle fun r =>
    if r.editLevel < s.level then s.refuse .denied
    else if s.stateInUse handle then s.refuse .busy
    else match checkState content with
      | none => s.refuse .badValue
      | some c =>
        ({ s with states := s.states.change handle fun q => { q with content := c } }.staleByState handle).accept []

/-- STATE_GET (R21). -/
def execStateGet (handle : Nat) (s : State) : Host.Outcome State Fault Refusal :=
  .next <| s.onRecord s.states Config.stateEntries handle fun r =>
    s.accept (bytesOf 1 r.editLevel ++ r.content.payload ++ bytesOf 2 r.refCount)

/-- STATE_DROP (R20). -/
def execStateDrop (handle : Nat) (s : State) : Host.Outcome State Fault Refusal :=
  .next <| s.onRecord s.states Config.stateEntries handle fun r =>
    if r.editLevel < s.level then s.refuse .denied
    else if 0 < r.refCount then s.refuse .inUse
    else { s with states := s.states.drop handle }.accept []

/-! ## Characteristics -/

/-- The characteristic CURVE_NEW stores (R12). -/
def newCurve (edit : Nat) (c : CurveContent) : Characteristic :=
  { editLevel := edit, content := c, revision := 0, refCount := 0 }

/-- CURVE_NEW (R12, R26). -/
def execCurveNew (edit : Nat) (content : RawCurve) (s : State) : Host.Outcome State Fault Refusal :=
  .next <|
    if 2 < edit then s.refuse .badValue
    else match checkCurve content with
      | none => s.refuse .badValue
      | some c =>
        match s.curves.lowestAbsent Config.curveEntries with
        | none => s.refuse .full
        | some h =>
          { s with curves := s.curves.put h (newCurve (storedLevel edit s.level) c) }.accept (bytesOf 1 h)

/-- A characteristic is named by a test point that is ACTIVE (R17). -/
def State.curveInUse (s : State) (handle : Nat) : Bool :=
  s.points.any fun e => decide (e.2.content.curve? = some handle) && decide (e.2.status = .active)

/-- Mark STALE the results of the test points whose expectation names a characteristic (R24). -/
def State.staleByCurve (s : State) (handle : Nat) : State :=
  { s with points := s.points.changeAll fun _ p => if p.content.curve? = some handle then p.markStale else p }

/-- A characteristic with new content: the revision is incremented, wrapping from 65,535 to 0 (R11, R17). -/
def Characteristic.replace (k : Characteristic) (c : CurveContent) : Characteristic :=
  { k with content := c, revision := (k.revision + 1) % 65536 }

/-- CURVE_SET (R17, R26). -/
def execCurveSet (handle : Nat) (content : RawCurve) (s : State) : Host.Outcome State Fault Refusal :=
  .next <| s.onRecord s.curves Config.curveEntries handle fun k =>
    if k.editLevel < s.level then s.refuse .denied
    else if s.curveInUse handle then s.refuse .busy
    else match checkCurve content with
      | none => s.refuse .badValue
      | some c =>
        ({ s with curves := s.curves.change handle fun q => q.replace c }.staleByCurve handle).accept []

/-- CURVE_GET (R21, R25). -/
def execCurveGet (handle : Nat) (s : State) : Host.Outcome State Fault Refusal :=
  .next <| s.onRecord s.curves Config.curveEntries handle fun k =>
    s.accept (bytesOf 1 k.editLevel ++ k.content.payload ++ bytesOf 2 k.revision ++ bytesOf 1 k.refCount)

/-- CURVE_DROP (R20). -/
def execCurveDrop (handle : Nat) (s : State) : Host.Outcome State Fault Refusal :=
  .next <| s.onRecord s.curves Config.curveEntries handle fun k =>
    if k.editLevel < s.level then s.refuse .denied
    else if 0 < k.refCount then s.refuse .inUse
    else { s with curves := s.curves.drop handle }.accept []

/-! ## Results -/

/-- A result read: UNREAD cleared (R128). -/
def TestPoint.markRead (p : TestPoint) : TestPoint :=
  { p with result := p.result.map fun r => { r with flags := { r.flags with unread := false } } }

/-- RESULT_GET: the result as it stands, then UNREAD cleared (R128, R173). -/
def execResultGet (handle : Nat) (s : State) : Host.Outcome State Fault Refusal :=
  .next <| s.onRecord s.points Config.pointEntries handle fun p =>
    match p.result with
    | none => s.refuse .absent
    | some r => (s.changePoint handle TestPoint.markRead).accept r.payload

/-- RESULT_DROP (R129). -/
def execResultDrop (handle : Nat) (s : State) : Host.Outcome State Fault Refusal :=
  .next <| s.onRecord s.points Config.pointEntries handle fun p =>
    if p.editLevel < s.level then s.refuse .denied
    else match p.result with
      | none => s.refuse .absent
      | some _ => (s.changePoint handle fun q => { q with result := none }).accept []

/-! ## Authority and identity -/

/-- LEVEL_STEP (R3). -/
def execLevelStep (level : Nat) (s : State) : Host.Outcome State Fault Refusal :=
  .next <|
    if 2 < level then s.refuse .badValue
    else if level < s.level then s.refuse .denied
    else { s with level := level }.accept (bytesOf 1 level)

/-- DEVICE_INFO (R172). -/
def execDeviceInfo (s : State) : Host.Outcome State Fault Refusal :=
  .next <| s.accept (bytesOf 2 Config.partCode ++ bytesOf 1 Config.siliconRevision)

end Sys2Proof.Machine
end

