-- ==== Sys2Proof/Machine/RunCommands.lean ====
section
/-! DEFINITION. The Run Controller's requests: the queue, the hold flag, the run setup, SHOT_ABORT and RUN_RESET. -/

namespace Sys2Proof.Machine

/-- QUEUE_ADD: an unmarked entry at the tail (R42). -/
def execQueueAdd (handle : Nat) (s : State) : Host.Outcome State Fault Refusal :=
  .next <| s.enqueue handle (s.run.queue ++ [{ handle := handle, marked := false }]) (s.run.queue.length + 1)

/-- QUEUE_FIRST: a marked entry after the last marked entry (R43). -/
def execQueueFirst (handle : Nat) (s : State) : Host.Outcome State Fault Refusal :=
  .next <| s.enqueue handle (insertAfterMarked s.run.queue { handle := handle, marked := true })
    ((s.run.queue.takeWhile fun e => e.marked).length + 1)

/-- Take a test point's entry out of the queue; those behind it close up (R44). -/
def State.unqueue (s : State) (h : Nat) : State :=
  { s with run := { s.run with queue := s.run.queue.filter fun e => e.handle ≠ h } }

/-- Post an ABORTED result on a SUSPENDED search (R145). -/
def TestPoint.abortSuspended (reason : AbortReason) (p : TestPoint) : TestPoint :=
  match p.content.kind with
  | .search params => p.post (searchAbort reason (p.context.getD params.firstContext))
  | .shot _ _ _ => p.post (bareAbort reason)

/-- QUEUE_REMOVE (R44, R145). -/
def execQueueRemove (handle : Nat) (s : State) : Host.Outcome State Fault Refusal :=
  .next <|
    if handle = 0 ∨ Config.pointEntries < handle then s.refuse .badHandle
    else match s.point? handle with
      | none => s.refuse .absent
      | some p =>
        match p.status with
        | .queued => ((s.unqueue handle).changePoint handle fun q => { q with status := .idle }).accept []
        | .suspended => ((s.unqueue handle).changePoint handle (TestPoint.abortSuspended .removed)).accept []
        | .active => s.refuse .busy
        | .idle => s.refuse .busy

/-- QUEUE_GET (R46). -/
def execQueueGet (s : State) : Host.Outcome State Fault Refusal := .next <| s.accept s.run.payload

/-- RUN_SETUP (R60). -/
def execRunSetup (restInterval resetWait policy : Nat) (s : State) : Host.Outcome State Fault Refusal :=
  .next <| match checkSetup restInterval resetWait policy with
    | none => s.refuse .badValue
    | some setup => { s with run := { s.run with setup := setup } }.accept []

/-- RUN_HOLD (R49). -/
def execRunHold (s : State) : Host.Outcome State Fault Refusal :=
  .next <| { s with run := { s.run with hold := true } }.accept []

/-- Do at once what the hold flag was holding back: in IDLE take the head; in a REST whose interval has ended,
with a search ACTIVE, make the end-of-REST decision (R49, R59). -/
def State.released (s : State) : State :=
  match s.run.state with
  | .idle => s.takeHead s.tick
  | .rest _ _ true _ =>
    match s.activePoint with
    | some (h, p) => s.decideSearch h p s.tick
    | none => s
  | _ => s

/-- RUN_RELEASE; with the flag already clear it changes nothing (R49). -/
def execRunRelease (s : State) : Host.Outcome State Fault Refusal :=
  .next <|
    if s.run.hold then (State.released { s with run := { s.run with hold := false } }).accept []
    else s.accept []

/-- SHOT_ABORT, judged at a generator instant: the ACTIVE test point is aborted with COMMAND, or the request is
refused with BUSY when none is ACTIVE (R62). A tick between instants stands for the instant after it.
DESIGN CHOICE (log entry 6; unsafe). After a REST_END row of the same instant it acts on the test point that is
ACTIVE then. DESIGN CHOICE (log entry 30; unsafe). -/
def execShotAbort (instant : Tick) (s : State) : Host.Outcome State Fault Refusal :=
  let t := Tick.instantAtOrAfter instant
  let now := s.atInstant t
  .next <| match now.activePoint with
    | none => now.refuse .busy
    | some _ => (now.abortActive .command t).accept []

/-- What run reset does to a test point that is not ACTIVE (R64, R145). -/
def TestPoint.runReset (p : TestPoint) : TestPoint :=
  match p.status with
  | .suspended => p.abortSuspended .runReset
  | _ => { p with status := .idle, context := none }

/-- RUN_RESET, taking effect at a generator instant (R64): the ACTIVE test point is aborted without a REST, every
other test point becomes IDLE, the queue is emptied, and IDLE is entered with QUEUE_EMPTY raised. -/
def execRunReset (instant : Tick) (s : State) : Host.Outcome State Fault Refusal :=
  let t := Tick.instantAtOrAfter instant
  let now := s.atInstant t
  let aborted := match now.activePoint with
    | some (h, p) => now.abortCore h p .runReset t
    | none => now
  let rested := aborted.toRest.applyPending
  .next <|
    (State.raiseQueueEmpty
      { rested with
        points := rested.points.changeAll fun _ p => p.runReset
        run := { rested.run with queue := [], state := .idle, active := none, hold := false } }).accept []

end Sys2Proof.Machine
end

