-- ==== Sys2Proof/Machine/ShotEvents.lean ====
section
/-! DEFINITION. The Run Controller's events at generator instants: the start of a shot, the ends of states, the
point-on-wave inception, the ends of waits and of REST, and the aborts that are not requests. An event whose
condition does not hold at its tick does not happen: only time reaches the tick. -/

namespace Sys2Proof.Machine

/-- A Run Controller event at a tick: at a generator instant where its condition holds, its effect takes place
after the instant's step of the accumulators (R67, R71). -/
def State.onInstant (s : State) (t : Tick) (condition : State → Bool) (effect : State → State) : State :=
  if t.isGeneratorInstant && condition (s.advanceTo t) then effect (s.atInstant t) else s.advanceTo t

/-- Act on the ACTIVE test point. -/
def State.withActive (s : State) (act : Nat → TestPoint → State) : State :=
  match s.activePoint with
  | none => s
  | some (h, p) => act h p

/-! ## The start of a shot -/

/-- A start that is due: the start conditions of a scheduled start, or none of an IMMEDIATE one. -/
inductive StartDue where
  | no
  | immediate
  | scheduled (lock : Lock) (skew : Nat)
  deriving DecidableEq, Repr

/-- The start instant has been reached (R53, R54, R161). A wait that a report has given TIME_LOST does not start, so that
abort comes before a start at the same instant. DESIGN CHOICE (log entry 35; unsafe): R54 leaves that order open where
R161 does not forbid the start. -/
def State.startDue (s : State) (t : Tick) : StartDue :=
  match s.run.state with
  | .playing p =>
    match p.stage with
    | .ready due => if Tick.reached due t then .immediate else .no
    | _ => .no
  | .startWait w =>
    match w.start, w.lost with
    | some (tick, skew), none => if Tick.reached tick t then .scheduled s.time.lock skew else .no
    | _, _ => .no
  | _ => .no

/-- The start conditions handed over at a start (R161). -/
def StartDue.conditions : StartDue → Option (Lock × Nat)
  | .scheduled lock skew => some (lock, skew)
  | _ => none

/-- All eight accumulators set to 0 at a scheduled start, in place of that instant's step (R78). -/
def Generator.zero (g : Generator) (t : Tick) : Generator :=
  { g with synths := g.synths.map fun y => { y with accumulator := 0 }, v1Before := 0, instant := some t }

/-- The clearing at a start instant: operation table, shot record and working values; a scheduled start zeroes the
accumulators (R54, R78, R102, R115). -/
def State.clearForShot (s : State) (due : StartDue) (t : Tick) : State :=
  { s with
    inputs := s.inputs.map fun i => { i with entry := clearedEntry i.qualification t }
    shot := { ShotRecord.empty with started := t, startConditions := due.conditions }
    gen := if due.conditions.isSome then s.gen.zero t else s.gen }

/-- PLAYING from START_WAIT on, or as it was entered before, a reported fault kept (R54). -/
def RunState.play (r : RunState) (g : Stage) : RunState :=
  match r with
  | .playing p => .playing { p with stage := g }
  | _ => .playing { stage := g, fault := none }

/-- The synthesisers take the frequencies and angle offsets of a deferred first state (R78). -/
def State.tuneTo (s : State) (c : StateContent) : State :=
  { s with gen := { s.gen with synths := PerChannel.of fun ch => (s.gen.synths.get ch).tune (c.settings.get ch) } }

/-- The point-on-wave test at a start instant: on the step just taken, or after a scheduled start met when the
target is 0 (R78). -/
def State.startMeets (s : State) (due : StartDue) (target : Phase) : Bool :=
  if due.conditions.isSome then decide (target = 0) else s.gen.meets target

/-- The first state is entered, or its entry as the fault state is deferred (R54, R55, R78). -/
def State.enterFirst (s : State) (p : TestPoint) (due : StartDue) (t : Tick) : State :=
  match s.waveTarget p.content 1, s.listed p.content 1 with
  | some target, some (_, first) =>
    if s.startMeets due target then s.enterPosition p 1 t
    else (s.tuneTo (p.playedContent 1 first)).setStage .deferredFirst
  | _, _ => s.enterPosition p 1 t

/-- SHOT_START (R54, R78, R102, R115, R161). -/
def execShotStart (t : Tick) (s : State) : Host.Outcome State Fault Refusal :=
  .next <| s.onInstant t (fun k => decide (k.startDue t ≠ .no)) fun k =>
    k.withActive fun _ p =>
      ((k.clearForShot (k.startDue t) t).setRun (k.run.state.play (.ready t))).enterFirst p (k.startDue t) t

/-! ## The ends of states -/

/-- The position and entry tick of the state in play that has not yet ended. -/
def RunState.inPlay? : RunState → Option (Nat × Tick)
  | .playing p =>
    match p.stage with
    | .inPlay position entry => some (position, entry)
    | _ => none
  | _ => none

/-- The duration of the state in play has run out (R56). -/
def State.durationOver (s : State) (t : Tick) : Bool :=
  match s.run.state.inPlay?, s.gen.snapshot with
  | some (_, entry), some k => Tick.reached (entry + BitVec.ofNat 48 k.content.duration) t
  | _, _ => false

/-- The state in play ends (R56, R57). -/
def State.endInPlay (s : State) (t : Tick) : State :=
  match s.run.state.inPlay? with
  | some (position, _) => s.withActive fun h p => s.endState h p position t
  | none => s

/-- STATE_DURATION_END (R56). -/
def execStateDurationEnd (t : Tick) (s : State) : Host.Outcome State Fault Refusal :=
  .next <| s.onInstant t (fun k => k.durationOver t) fun k => k.endInPlay t

/-- The trip criterion ends the INPUT state in play: it qualified at or after the state's entry, at a sample
before this instant (R57). -/
def State.inputEnds (s : State) (t : Tick) : Bool :=
  match s.run.state.inPlay?, s.gen.snapshot, s.shot.criterion with
  | some (_, entry), some k, some c =>
    decide (k.content.endCondition = .input) && Tick.reached entry c.qualifying && Tick.before c.qualifying t
  | _, _, _ => false

/-- INPUT_STATE_END (R57). -/
def execInputStateEnd (t : Tick) (s : State) : Host.Outcome State Fault Refusal :=
  .next <| s.onInstant t (fun k => k.inputEnds t) fun k => k.endInPlay t

/-! ## Point-on-wave inception -/

/-- The position whose entry is deferred. -/
def RunState.deferred? : RunState → Option Nat
  | .playing p =>
    match p.stage with
    | .deferred position => some (position + 1)
    | .deferredFirst => some 1
    | _ => none
  | _ => none

/-- The deferred fault state is entered where V1's accumulator has reached or passed its target at this instant;
the notes of the state before it end here (R77, R78, R79). -/
def State.incept (s : State) (t : Tick) : State :=
  match s.run.state.deferred?, s.activePoint with
  | some position, some (_, p) =>
    match s.waveTarget p.content position with
    | some target => if s.gen.meets target then (s.handNotes t).enterPosition p position t else s
    | none => s
  | _, _ => s

/-- POINT_ON_WAVE_INCEPTION (R77, R78). -/
def execPointOnWaveInception (t : Tick) (s : State) : Host.Outcome State Fault Refusal :=
  .next <| s.onInstant t (fun k => k.run.state.deferred?.isSome) fun k => k.incept t

/-! ## The ends of waits -/

/-- A time in ms after a tick has been reached. -/
def afterMillis (since : Tick) (millis : Nat) (t : Tick) : Bool :=
  Tick.reached (since + BitVec.ofNat 48 (1000 * millis)) t

/-- The reset-wait limit has expired (R52). -/
def State.resetWaitOver (s : State) (t : Tick) : Bool :=
  match s.run.state with
  | .resetWait since limit => afterMillis since limit t
  | _ => false

/-- RESET_WAIT_LIMIT_EXPIRY (R52). -/
def execResetWaitLimitExpiry (t : Tick) (s : State) : Host.Outcome State Fault Refusal :=
  .next <| s.onInstant t (fun k => k.resetWaitOver t) fun k => k.abortActive .notReset t

/-- The rest interval has ended (R59). -/
def State.restOver (s : State) (t : Tick) : Bool :=
  match s.run.state with
  | .rest since interval false _ => afterMillis since interval t
  | _ => false

/-- The end of REST in the run state that stands (R59). -/
def State.restEnds (s : State) (t : Tick) : State :=
  match s.run.state with
  | .rest since interval _ fault => s.endRest since interval fault t
  | _ => s

/-- REST_END (R59). -/
def execRestEnd (t : Tick) (s : State) : Host.Outcome State Fault Refusal :=
  .next <| s.onInstant t (fun k => k.restOver t) fun k => k.restEnds t

/-! ## Aborts -/

/-- The amplifier fault that waits to be acted on: reported while PLAYING (R63), and kept in the REST of a search
whose shot end was taken before the abort of the same instant (R144). DEDUCED (log entry 18; unsafe): R144 over R63's
next PRECHECK. -/
def RunState.pendingFault? : RunState → Option Tick
  | .playing p => p.fault
  | .rest _ _ _ fault => fault
  | _ => none

/-- A reported amplifier fault is due to be acted on (R63, R90, R144). -/
def State.faultDue (s : State) (t : Tick) : Bool :=
  match s.run.state.pendingFault? with
  | some r => Tick.reached r t
  | none => false

/-- AMPLIFIER_ABORT (R63, R144). -/
def execAmplifierAbort (t : Tick) (s : State) : Host.Outcome State Fault Refusal :=
  .next <| s.onInstant t (fun k => k.faultDue t) fun k => k.abortActive .amplifier t

/-- A report that gives TIME_LOST is due to be acted on (R160). -/
def State.timeLostDue (s : State) (t : Tick) : Bool :=
  match s.run.state with
  | .startWait w =>
    match w.lost with
    | some r => Tick.reached r t
    | none => false
  | _ => false

/-- TIME_LOST_ABORT (R53, R160). -/
def execTimeLostAbort (t : Tick) (s : State) : Host.Outcome State Fault Refusal :=
  .next <| s.onInstant t (fun k => k.timeLostDue t) fun k => k.abortActive .timeLost t

end Sys2Proof.Machine
end

