-- ==== Sys2Proof/Machine/TimeEvents.lean ====
section
/-! DEFINITION. The events of the time reference inputs and of the lock machine's windows and limits. An event
whose condition does not hold at its tick does not happen: nothing changes but the time. -/

namespace Sys2Proof.Machine

/-! ## Pulses -/

/-- A pulse through the lock machine, with its reports (R148 to R153, R158). -/
def State.pulse (s : State) (t : Tick) : State :=
  match s.time.takePulse t with
  | .edge b => s.setTimebase b s.time.stepsLabel (some { kind := .pulse, edge := t }) t
  | .quiet b => s.setTimebase b false none t

/-- PPS can have been read low before a tick and high at it, as far as its latest reading known tells: the tick is not
the one of that reading, nor the one after it where it was high (R148, R177).
DESIGN CHOICE (log entry 28; unsafe): the row stands for the two readings. -/
def LineReading.mayRise (k : LineReading) (t : Tick) : Bool :=
  decide (t ≠ k.readAt) && !(k.high && decide (t = k.readAt + 1))

/-- The line as read high at a tick. -/
def Timebase.readHigh (b : Timebase) (t : Tick) : Timebase := { b with pps := { high := true, readAt := t } }

/-- PULSE: a rise of PPS is captured and taken by the lock machine (R148). -/
def execPulse (t : Tick) (s : State) : Host.Outcome State Fault Refusal :=
  .next <| s.happen t (fun k => k.time.pps.mayRise t) fun k => ({ k with time := k.time.readHigh t }).pulse t

/-! ## Windows and limits -/

/-- The ACQUIRING window has closed (R149). -/
def Timebase.acquisitionCloses (b : Timebase) (t : Tick) : Bool :=
  match b.lock, b.reference with
  | .acquiring, some r => windowClosed b.window (r + BitVec.ofNat 48 Config.nominalSecond) t
  | _, _ => false

/-- ACQUISITION_WINDOW_CLOSES: the lock state becomes FREE (R149). -/
def execAcquisitionWindowCloses (t : Tick) (s : State) : Host.Outcome State Fault Refusal :=
  .next <| s.happen t (fun k => k.time.acquisitionCloses t) fun k => k.setTimebase k.time.toFree false none t

/-- The expected edge in LOCKED whose window has closed (R150). -/
def Timebase.missedAt (b : Timebase) (t : Tick) : Option Tick :=
  match b.lock, b.reference with
  | .locked, some r =>
    if windowClosed b.window (b.expectedEdge r) t then some (b.expectedEdge r) else none
  | _, _ => none

/-- The expected edge becomes a missed edge (R150). -/
def State.missEdge (s : State) (t : Tick) : State :=
  match s.time.missedAt t with
  | some e => s.setTimebase (s.time.missEdge e t) s.time.stepsLabel (some { kind := .missed, edge := e }) t
  | none => s

/-- MISSED_EDGE (R150). -/
def execMissedEdge (t : Tick) (s : State) : Host.Outcome State Fault Refusal :=
  .next <| (s.advanceTo t).missEdge t

/-- The next predicted edge in HOLDOVER whose own tick has been reached (R151). Where a TIME_SET brings HOLDOVER after
that tick, the edge is established at the next PREDICTED_EDGE row, its own tick as the edge tick.
DESIGN CHOICE (log entry 32; unsafe). -/
def Timebase.predictedAt (b : Timebase) (t : Tick) : Option Tick :=
  match b.lock, b.reference with
  | .holdover, some r => if Tick.reached (b.expectedEdge r) t then some (b.expectedEdge r) else none
  | _, _ => none

/-- The predicted edge is established (R151). -/
def State.predictEdge (s : State) (t : Tick) : State :=
  match s.time.predictedAt t with
  | some e =>
    s.setTimebase (s.time.secondEdge .predicted e false) s.time.stepsLabel
      (some { kind := .predicted, edge := e }) t
  | none => s

/-- PREDICTED_EDGE (R151). -/
def execPredictedEdge (t : Tick) (s : State) : Host.Outcome State Fault Refusal :=
  .next <| (s.advanceTo t).predictEdge t

/-- HOLDOVER_LIMIT_ELAPSES (R151). -/
def execHoldoverLimitElapses (t : Tick) (s : State) : Host.Outcome State Fault Refusal :=
  .next <| s.happen t (fun k => decide (k.time.lock = .holdover) && k.time.holdoverElapsed t) fun k =>
    k.setTimebase k.time.loseHoldover false none t

/-! ## Messages -/

/-- TIME_MESSAGE: a flag, the characters after it and the flag that ends the message (R154, R155).
DESIGN CHOICE (log entry 20; unsafe): the row's form. -/
def execTimeMessage (t : Tick) (characters : List Byte) (s : State) : Host.Outcome State Fault Refusal :=
  .next <|
    let k := s.advanceTo t
    { k with time := k.time.receive Assembly.empty (flagByte :: (characters ++ [flagByte])) }

/-- FRAMING_ERROR: the message in progress is discarded (R154). -/
def execFramingError (t : Tick) (s : State) : Host.Outcome State Fault Refusal :=
  .next { s.advanceTo t with time := s.time.abandonMessage }

/-- OVERLONG_MESSAGE: the 25th character between two flags discards the message (R154). -/
def execOverlongMessage (t : Tick) (s : State) : Host.Outcome State Fault Refusal :=
  .next { s.advanceTo t with time := s.time.abandonMessage }

end Sys2Proof.Machine
end

