-- ==== Sys2Proof/Decode.lean ====
section
/-! DEFINITION. Reading commands: the request that a received frame carries (R165, R171), and the reading of a
table word, which no row of this part's table has. -/

namespace Sys2Proof

/-- The command a table word spells: spec/opcode_table.json gives no row any bits, so no word spells one. -/
def decodeTableWord (_nbits _w : Nat) : Option Instr := none

/-- The kinds of transaction (R162). -/
inductive TransactionKind where
  | send | fetch | status
  deriving DecidableEq, Repr

/-- The kind the first host byte names, if any (chapter Serial Command Port, the table of kinds; R162). -/
def transactionKind (first : Byte) : Option TransactionKind :=
  if first = 0x5A then some .send
  else if first = 0xA5 then some .fetch
  else if first = 0x3C then some .status
  else none

/-- The transaction of the whole bytes the host clocks in between assertion and deassertion of chip select: the first
byte decides it, and without a whole first byte it is none (R162). Of the bytes after a FETCH or STATUS byte only the
number counts. -/
def transactionOf : List Byte → Option Instr
  | [] => none
  | first :: rest => some <|
    match transactionKind first with
    | some .send => .send rest
    | some .fetch => .fetch (rest.length + 1)
    | some .status => .status (rest.length + 1)
    | none => .unknownKind first rest.length

/-- What the port makes of a received frame's command code and payload (R165). -/
inductive Reading where
  | unknownCommand
  | badLength
  | request (r : Instr)
  deriving DecidableEq, Repr

/-- A request whose payload has one fixed length. -/
def readFixed (length : Nat) (payload : List Byte) (r : Instr) : Reading :=
  if payload.length = length then .request r else .badLength

/-- One channel's setting of a state content (R171). -/
def settingAt (payload : List Byte) (offset : Nat) : ChannelSetting :=
  { amplitude := fieldAt payload offset 2, angle := fieldAt payload (offset + 2) 2
    frequency := fieldAt payload (offset + 4) 3 }

/-- The state content of 65 bytes at an offset (R171). -/
def stateAt (payload : List Byte) (offset : Nat) : RawState :=
  { settings := PerChannel.of fun c => settingAt payload (offset + 7 * (c.number - 1))
    outputs := fieldAt payload (offset + 56) 1
    duration := fieldAt payload (offset + 57) 4
    endCondition := fieldAt payload (offset + 61) 1
    inception := fieldAt payload (offset + 62) 1
    theta := fieldAt payload (offset + 63) 2 }

/-- The curve content at an offset, of `n` breakpoints (R171). -/
def curveAt (payload : List Byte) (offset n : Nat) : RawCurve :=
  { quantity := fieldAt payload offset 1
    pickup := fieldAt payload (offset + 1) 2
    breakpoints := (List.range n).map fun k =>
      (fieldAt payload (offset + 4 + 6 * k) 2, fieldAt payload (offset + 6 + 6 * k) 4) }

/-- The point content at an offset, of `n` state handles (R171). -/
def pointAt (payload : List Byte) (offset n : Nat) : RawPoint :=
  { tag := fieldAt payload offset 4
    kind := fieldAt payload (offset + 4) 1
    faultPosition := fieldAt payload (offset + 5) 1
    startMode := fieldAt payload (offset + 6) 1
    day := fieldAt payload (offset + 7) 2
    second := fieldAt payload (offset + 9) 3
    offset := fieldAt payload (offset + 12) 3
    monitored := fieldAt payload (offset + 15) 2
    combine := fieldAt payload (offset + 17) 1
    expectation := fieldAt payload (offset + 18) 1
    expectedTime := fieldAt payload (offset + 19) 4
    characteristic := fieldAt payload (offset + 23) 1
    tolerancePercent := fieldAt payload (offset + 24) 1
    toleranceAbsolute := fieldAt payload (offset + 25) 4
    varied := fieldAt payload (offset + 29) 1
    lower := fieldAt payload (offset + 30) 2
    upper := fieldAt payload (offset + 32) 2
    resolution := fieldAt payload (offset + 34) 2
    maximumShots := fieldAt payload (offset + 36) 1
    policy := fieldAt payload (offset + 37) 1
    boundary := fieldAt payload (offset + 38) 2
    searchPercent := fieldAt payload (offset + 40) 1
    searchAbsolute := fieldAt payload (offset + 41) 2
    states := (List.range n).map fun k => fieldAt payload (offset + 44 + k) 1 }

/-- POINT_NEW and POINT_SET: one byte, then a point content whose list length agrees (R165). -/
def readPoint (payload : List Byte) (make : Nat → RawPoint → Instr) : Reading :=
  let n := fieldAt payload 44 1
  if payload.length = 45 + n then .request (make (fieldAt payload 0 1) (pointAt payload 1 n)) else .badLength

/-- STATE_NEW and STATE_SET: one byte, then a state content. -/
def readState (payload : List Byte) (make : Nat → RawState → Instr) : Reading :=
  readFixed 66 payload (make (fieldAt payload 0 1) (stateAt payload 1))

/-- CURVE_NEW and CURVE_SET: one byte, then a curve content whose breakpoint count agrees (R165). -/
def readCurve (payload : List Byte) (make : Nat → RawCurve → Instr) : Reading :=
  let n := fieldAt payload 4 1
  if payload.length = 5 + 6 * n then .request (make (fieldAt payload 0 1) (curveAt payload 1 n)) else .badLength

/-- STATE_LOAD: a count of 0 or above 3 is passed on without a length check (R165). An empty payload carries
no count, so its length agrees with no layout. DEDUCED (log entry 21; unsafe). -/
def readStateLoad (payload : List Byte) : Reading :=
  let count := fieldAt payload 0 1
  if payload.length = 0 then .badLength
  else if count = 0 ∨ 3 < count then .request (.stateLoad count [])
  else if payload.length = 1 + 66 * count then
    .request (.stateLoad count ((List.range count).map fun k =>
      (fieldAt payload (1 + 66 * k) 1, stateAt payload (2 + 66 * k))))
  else .badLength

/-- The plan commands (chapter Serial Command Port, Plan commands). -/
def readPlanCommand (code : Nat) (p : List Byte) : Reading :=
  match code with
  | 0x10 => readPoint p .pointNew
  | 0x11 => readPoint p .pointSet
  | 0x12 => readFixed 1 p (.pointGet (fieldAt p 0 1))
  | 0x13 => readFixed 4 p (.pointFind (fieldAt p 0 4))
  | 0x14 => readFixed 0 p .pointList
  | 0x15 => readFixed 1 p (.pointDrop (fieldAt p 0 1))
  | 0x16 => readState p .stateNew
  | 0x17 => readStateLoad p
  | 0x18 => readState p .stateSet
  | 0x19 => readFixed 1 p (.stateGet (fieldAt p 0 1))
  | 0x1A => readFixed 1 p (.stateDrop (fieldAt p 0 1))
  | 0x1B => readCurve p .curveNew
  | 0x1C => readCurve p .curveSet
  | 0x1D => readFixed 1 p (.curveGet (fieldAt p 0 1))
  | 0x1E => readFixed 1 p (.curveDrop (fieldAt p 0 1))
  | 0x1F => readFixed 1 p (.resultGet (fieldAt p 0 1))
  | 0x20 => readFixed 1 p (.resultDrop (fieldAt p 0 1))
  | _ => .unknownCommand

/-- The run commands; a request that acts at a generator instant acts at the one named. -/
def readRunCommand (instant : Tick) (code : Nat) (p : List Byte) : Reading :=
  match code with
  | 0x30 => readFixed 1 p (.queueAdd (fieldAt p 0 1))
  | 0x31 => readFixed 1 p (.queueFirst (fieldAt p 0 1))
  | 0x32 => readFixed 1 p (.queueRemove (fieldAt p 0 1))
  | 0x33 => readFixed 0 p .queueGet
  | 0x34 => readFixed 5 p (.runSetup (fieldAt p 0 2) (fieldAt p 2 2) (fieldAt p 4 1))
  | 0x35 => readFixed 0 p .runHold
  | 0x36 => readFixed 0 p .runRelease
  | 0x37 => readFixed 0 p (.shotAbort instant)
  | 0x38 => readFixed 0 p (.runReset instant)
  | _ => .unknownCommand

/-- The channel, input and time commands, LEVEL_STEP and DEVICE_INFO. -/
def readUnitCommand (code : Nat) (p : List Byte) : Reading :=
  match code with
  | 0x40 => readFixed 9 p (.chanSet (fieldAt p 0 1)
      { range := fieldAt p 1 2, offThreshold := fieldAt p 3 2, onThreshold := fieldAt p 5 2
        qualifying := fieldAt p 7 1, overloadLimit := fieldAt p 8 1 })
  | 0x41 => readFixed 1 p (.chanGet (fieldAt p 0 1))
  | 0x42 => readFixed 1 p (.chanUnmute (fieldAt p 0 1))
  | 0x43 => readFixed 1 p (.chanService (fieldAt p 0 1))
  | 0x44 => readFixed 8 p (.inputSet (fieldAt p 0 1)
      { mode := fieldAt p 1 1, onThreshold := fieldAt p 2 2, offThreshold := fieldAt p 4 2
        samples := fieldAt p 6 1, polarity := fieldAt p 7 1 })
  | 0x45 => readFixed 1 p (.inputGet (fieldAt p 0 1))
  | 0x46 => readFixed 1 p (.outputIdleSet (fieldAt p 0 1))
  | 0x50 => readFixed 5 p (.timeSet (fieldAt p 0 2) (fieldAt p 2 1) (fieldAt p 3 2))
  | 0x51 => readFixed 0 p .timeGet
  | 0x60 => readFixed 1 p (.levelStep (fieldAt p 0 1))
  | 0x61 => readFixed 0 p .deviceInfo
  | _ => .unknownCommand

/-- What a received frame carries: the command tables of the chapter Serial Command Port. `instant` is the
generator instant at which SHOT_ABORT and RUN_RESET take effect. -/
def readRequest (instant : Tick) (code : Nat) (payload : List Byte) : Reading :=
  if code < 0x30 then readPlanCommand code payload
  else if code < 0x40 then readRunCommand instant code payload
  else readUnitCommand code payload

end Sys2Proof
end

