-- ==== Sys2Proof/WellFormed.lean ====
section
/-! DEFINITION. Which commands can arrive: the operands of a request fit the fields of its payload (R171), an
event on the sampled lines falls on its grid of instants, and a transaction is what its row names. A value that
fits its field and is out of range is well formed: the owning block refuses it. -/

namespace Sys2Proof

/-- A value fits a field of `bytes` bytes (R171). -/
def fits (bytes v : Nat) : Bool := v < 256 ^ bytes

/-- Every field of a state content fits (R171). -/
def RawState.wellFormed (r : RawState) : Bool :=
  (r.settings.toList.all fun c => fits 2 c.amplitude && fits 2 c.angle && fits 3 c.frequency)
    && fits 1 r.outputs && fits 4 r.duration && fits 1 r.endCondition && fits 1 r.inception && fits 2 r.theta

/-- Every field of a curve content fits, its count among them (R171). -/
def RawCurve.wellFormed (r : RawCurve) : Bool :=
  fits 1 r.quantity && fits 2 r.pickup && fits 1 r.breakpoints.length
    && r.breakpoints.all fun b => fits 2 b.1 && fits 4 b.2

/-- The fields of a point content that every kind reads fit (R171). -/
def RawPoint.commonFits (r : RawPoint) : Bool :=
  fits 4 r.tag && fits 1 r.kind && fits 1 r.faultPosition && fits 1 r.startMode && fits 2 r.day && fits 3 r.second
    && fits 3 r.offset && fits 2 r.monitored && fits 1 r.combine && fits 1 r.states.length
    && r.states.all (fits 1)

/-- The SHOT fields of a point content fit (R171). -/
def RawPoint.shotFits (r : RawPoint) : Bool :=
  fits 1 r.expectation && fits 4 r.expectedTime && fits 1 r.characteristic && fits 1 r.tolerancePercent
    && fits 4 r.toleranceAbsolute

/-- The SEARCH fields of a point content fit (R171). -/
def RawPoint.searchFits (r : RawPoint) : Bool :=
  fits 1 r.varied && fits 2 r.lower && fits 2 r.upper && fits 2 r.resolution && fits 1 r.maximumShots
    && fits 1 r.policy && fits 2 r.boundary && fits 1 r.searchPercent && fits 2 r.searchAbsolute

/-- Every field of a point content fits (R171). -/
def RawPoint.wellFormed (r : RawPoint) : Bool := r.commonFits && r.shotFits && r.searchFits

/-- The entries of STATE_LOAD: as many as the count says where it is 1 to 3, none otherwise (R165). -/
def loadWellFormed (count : Nat) (entries : List (Nat × RawState)) : Bool :=
  fits 1 count && (if count = 0 || 3 < count then entries.length = 0 else entries.length = count)
    && entries.all fun e => fits 1 e.1 && e.2.wellFormed

/-- The fields of CHAN_SET fit (R171). -/
def RawChannelConfig.wellFormed (r : RawChannelConfig) : Bool :=
  fits 2 r.range && fits 2 r.offThreshold && fits 2 r.onThreshold && fits 1 r.qualifying && fits 1 r.overloadLimit

/-- The fields of INPUT_SET fit (R171). -/
def RawInputConfig.wellFormed (r : RawInputConfig) : Bool :=
  fits 1 r.mode && fits 2 r.onThreshold && fits 2 r.offThreshold && fits 1 r.samples && fits 1 r.polarity

/-- A command that can arrive. -/
def Instr.wellFormed : Instr → Bool
  | .deviceReset _ => true
  | .send _ => true
  | .fetch clocked => 1 ≤ clocked
  | .status clocked => 1 ≤ clocked
  | .unknownKind first _ => (transactionKind first).isNone
  | .pointNew edit c => fits 1 edit && c.wellFormed
  | .pointSet h c => fits 1 h && c.wellFormed
  | .pointGet h => fits 1 h
  | .pointFind tag => fits 4 tag
  | .pointList => true
  | .pointDrop h => fits 1 h
  | .stateNew edit c => fits 1 edit && c.wellFormed
  | .stateLoad count entries => loadWellFormed count entries
  | .stateSet h c => fits 1 h && c.wellFormed
  | .stateGet h => fits 1 h
  | .stateDrop h => fits 1 h
  | .curveNew edit c => fits 1 edit && c.wellFormed
  | .curveSet h c => fits 1 h && c.wellFormed
  | .curveGet h => fits 1 h
  | .curveDrop h => fits 1 h
  | .resultGet h => fits 1 h
  | .resultDrop h => fits 1 h
  | .queueAdd h => fits 1 h
  | .queueFirst h => fits 1 h
  | .queueRemove h => fits 1 h
  | .queueGet => true
  | .runSetup rest wait policy => fits 2 rest && fits 2 wait && fits 1 policy
  | .runHold => true
  | .runRelease => true
  | .shotAbort t => t.isGeneratorInstant
  | .runReset t => t.isGeneratorInstant
  | .chanSet c r => fits 1 c && r.wellFormed
  | .chanGet c => fits 1 c
  | .chanUnmute c => fits 1 c
  | .chanService c => fits 1 c
  | .inputSet n r => fits 1 n && r.wellFormed
  | .inputGet n => fits 1 n
  | .outputIdleSet mask => fits 1 mask
  | .timeSet w missed holdover => fits 2 w && fits 1 missed && fits 2 holdover
  | .timeGet => true
  | .levelStep level => fits 1 level
  | .deviceInfo => true
  | .sensedLevelChange t _ _ _ => t.isInputInstant
  | .operate t _ => t.isInputInstant
  | .release t _ => t.isInputInstant
  | .amplifierFaultAssertion t _ => t.isInputInstant
  | .faultLineDeassertion t _ => t.isInputInstant
  | .windowEstimate t _ _ => t.isGeneratorInstant
  | .shotStart t => t.isGeneratorInstant
  | .stateDurationEnd t => t.isGeneratorInstant
  | .inputStateEnd t => t.isGeneratorInstant
  | .pointOnWaveInception t => t.isGeneratorInstant
  | .resetWaitLimitExpiry t => t.isGeneratorInstant
  | .restEnd t => t.isGeneratorInstant
  | .amplifierAbort t => t.isGeneratorInstant
  | .timeLostAbort t => t.isGeneratorInstant
  | .pulse _ => true
  | .acquisitionWindowCloses _ => true
  | .missedEdge _ => true
  | .predictedEdge _ => true
  | .holdoverLimitElapses _ => true
  | .timeMessage _ _ => true
  | .generatorInstant t _ => t.isGeneratorInstant
  | .inputSample t _ _ => t.isInputInstant
  | .framingError _ => true
  | .overlongMessage _ => true

end Sys2Proof
end

