-- ==== Sys2Proof/Machine/Transactions.lean ====
section
/-! DEFINITION. Device reset and the transactions of the Serial Command Port. A transaction is one step: the link
state and the status block latched at chip select assertion are those the step finds (R162). -/

namespace Sys2Proof.Machine

/-- DEVICE_RESET: every block at its device-reset values; a fault line found asserted at tick 0 mutes its channel
without being counted, and a PPS line found high there is no rise (R1, R65, R81, R95, R176, R177). The queue of
waiting commands is the sender's and stays.
DESIGN CHOICE (log entry 5; unsafe). -/
def execDeviceReset (found : FirstReading) (s : State) : Host.Outcome State Fault Refusal :=
  .next { State.reset with
    channels := PerChannel.of fun c =>
      { channelsReset.get c with mute := c.isIn found.faultLines, faultLine := c.isIn found.faultLines }
    time := { Timebase.reset with pps := { high := found.ppsHigh, readAt := 0 } }
    pending := s.pending }

/-- What the 6208 shifts out in a transaction of `clocked` bytes: the link state byte, then bytes, then 0x00 (R162).
DESIGN CHOICE (log entry 4; unsafe): a transaction is one step. -/
def shiftedOut (clocked : Nat) (link : Link) (bytes : List Byte) : List Byte :=
  let all := bytesOf 1 link.code ++ bytes
  all.take clocked ++ List.replicate (clocked - all.length) 0

/-- The judgement of a request frame at deselect (R164). -/
inductive FrameJudgement where
  | cut
  | frameError
  | received (code : Nat) (payload : List Byte)
  deriving DecidableEq, Repr

/-- Judge the bytes counted and the bytes stored of a request frame (R163, R164). -/
def judgeFrame (count : Nat) (stored : List Byte) : FrameJudgement :=
  let length := fieldAt stored 1 1
  let body := stored.take (2 + length)
  if count < 4 ∨ count < 4 + length then .cut
  else if Config.payloadMaximum < length then .frameError
  else if 4 + length < count then .frameError
  else if fieldAt stored (2 + length) 2 ≠ (crcOf body).toNat then .frameError
  else .received (fieldAt stored 0 1) (body.drop 2)

/-- A received frame is dispatched: UNKNOWN_COMMAND and BAD_LENGTH are answered by the port; a request that
passes both is in hand and the link is WORKING (R164, R165). -/
def State.dispatch (s : State) (code : Nat) (payload : List Byte) : State :=
  match readRequest (Tick.instantAfter s.tick) code payload with
  | .unknownCommand => s.refuse .unknownCommand
  | .badLength => s.refuse .badLength
  | .request r => { s with port := { s.port with link := .working, inHand := some r } }

/-- SEND (R163, R164, R165, R169). -/
def execSend (bytes : List Byte) (s : State) : Host.Outcome State Fault Refusal :=
  let shifted := shiftedOut (bytes.length + 1) s.port.link []
  match s.port.link with
  | .ready =>
    let stored := { s with port := { s.port with request := bytes.take Config.bufferBytes, shifted := shifted } }
    match judgeFrame bytes.length (bytes.take Config.bufferBytes) with
    | .cut => .next { stored with port := stored.port.setFrameCut }
    | .frameError =>
      .next { stored.refuse .frameError with
        port := { (stored.refuse .frameError).port with linkCause := true } }
    | .received code payload => .next (stored.dispatch code payload)
  | _ => .next { s with port := { s.port.setRefused with shifted := shifted } }

/-- FETCH: the response, and READY once its last byte is out; an empty NO_ANSWER frame when none waits. A span
without a whole first byte is no transaction (R162, R166). -/
def execFetch (clocked : Nat) (s : State) : Host.Outcome State Fault Refusal :=
  if clocked = 0 then .next s
  else
    match s.port.link with
    | .answer =>
      let p := { s.port with shifted := shiftedOut clocked s.port.link s.port.response }
      if s.port.response.length < clocked then
        .next { s with port := { p with link := .ready, response := [] } }
      else .next { s with port := p }
    | _ =>
      .next { s with port :=
        { s.port with shifted := shiftedOut clocked s.port.link (frameOf ResultCode.noAnswer.code []) } }

/-- STATUS: the latched block; every event cause and status it showed set is cleared once the attention byte is
out. A span without a whole first byte is no transaction (R162, R167). -/
def execStatus (clocked : Nat) (s : State) : Host.Outcome State Fault Refusal :=
  if clocked = 0 then .next s
  else
    let p := { s.port with shifted := shiftedOut clocked s.port.link (s.statusBlock.drop 1) }
    .next { s with port := if 2 ≤ clocked then p.clearEvents else p }

/-- A transaction whose first byte names no kind: ignored, REFUSED set and LINK raised (R162, R169). A byte that
does name a kind begins one of the other transactions (`transactionOf`), so this event does not happen on it.
DESIGN CHOICE (log entry 33; unsafe): 0x00 is shifted out after the link state byte. -/
def execUnknownKind (first : Byte) (following : Nat) (s : State) : Host.Outcome State Fault Refusal :=
  if (transactionKind first).isSome then .next s
  else .next { s with port := { s.port.setRefused with shifted := shiftedOut (following + 1) s.port.link [] } }

end Sys2Proof.Machine
end

