-- ==== Sys2Proof/Machine/UnitCommands.lean ====
section
/-! DEFINITION. The requests of the Output Supervisor, the Binary Input Unit and the Timebase. -/

namespace Sys2Proof.Machine

/-! ## Channels -/

/-- Run a request on a channel number: BAD_HANDLE for 0 or above 8 (R82, R84, R91, R93). -/
def State.onChannel (s : State) (number : Nat) (act : Chan → State) : State :=
  match Chan.ofNumber number with
  | none => s.refuse .badHandle
  | some c => act c

/-- Change one channel record. -/
def State.setChannel (s : State) (c : Chan) (f : Channel → Channel) : State :=
  { s with channels := s.channels.update c f }

/-- CHAN_SET: held pending while PLAYING; in force at once otherwise, where a FIT channel that becomes UNFIT
raises CHANNEL (R82, R83). -/
def execChanSet (channel : Nat) (config : RawChannelConfig) (s : State) : Host.Outcome State Fault Refusal :=
  .next <| s.onChannel channel fun c =>
    match checkChannel c config with
    | none => s.refuse .badValue
    | some k =>
      if s.run.state.isPlaying then (s.setChannel c fun r => { r with pending := some k }).accept []
      else
        ((s.setChannel c fun r => r.configure k).raiseChannelIf
          ((s.channels.get c).fit && !((s.channels.get c).configure k).fit)).accept []

/-- CHAN_GET (R84). -/
def execChanGet (channel : Nat) (s : State) : Host.Outcome State Fault Refusal :=
  .next <| s.onChannel channel fun c => s.accept (s.channels.get c).payload

/-- CHAN_UNMUTE (R91). -/
def execChanUnmute (channel : Nat) (s : State) : Host.Outcome State Fault Refusal :=
  .next <| s.onChannel channel fun c =>
    if (s.channels.get c).faultLine then s.refuse .busy
    else
      ((s.setChannel c fun r => { r with mute := false }).raiseChannelIf (s.channels.get c).mute).accept []

/-- A channel record after service: counts 0 and FIT (R93). -/
def Channel.service (k : Channel) : Channel := { k with overloads := 0, losses := 0, fit := true }

/-- CHAN_SERVICE (R93). -/
def execChanService (channel : Nat) (s : State) : Host.Outcome State Fault Refusal :=
  .next <| s.onChannel channel fun c =>
    if 1 < s.level then s.refuse .denied
    else ((s.setChannel c Channel.service).raiseChannelIf (!(s.channels.get c).fit)).accept []

/-! ## Inputs and binary output idle levels -/

/-- Run a request on an input number: BAD_HANDLE for 0 or above 10 (R110, R112). -/
def State.onInput (s : State) (number : Nat) (act : Inp → State) : State :=
  match Inp.ofNumber number with
  | none => s.refuse .badHandle
  | some n => act n

/-- Change one input record. -/
def State.setInput (s : State) (n : Inp) (f : Input → Input) : State :=
  { s with inputs := s.inputs.update n f }

/-- INPUT_SET: held pending while PLAYING, in force at once otherwise (R110, R111). -/
def execInputSet (input : Nat) (config : RawInputConfig) (s : State) : Host.Outcome State Fault Refusal :=
  .next <| s.onInput input fun n =>
    match checkInput config with
    | none => s.refuse .badValue
    | some k =>
      if s.run.state.isPlaying then (s.setInput n fun i => { i with pending := some k }).accept []
      else (s.setInput n fun i => i.configure k).accept []

/-- INPUT_GET (R112). -/
def execInputGet (input : Nat) (s : State) : Host.Outcome State Fault Refusal :=
  .next <| s.onInput input fun n => s.accept ((s.inputs.get n).payload s.idleOutputs)

/-- OUTPUT_IDLE_SET: the new idle levels are driven at once while no state is in play (R76, R113). -/
def execOutputIdleSet (mask : Nat) (s : State) : Host.Outcome State Fault Refusal :=
  .next <|
    if 16 ≤ mask then s.refuse .badValue
    else
      let idle := BitVec.ofNat 4 mask
      { s with idleOutputs := idle
               gen := if s.gen.snapshot = none then { s.gen with outputs := idle } else s.gen }.accept []

/-! ## The time reference -/

/-- The reference edge is a predicted edge whose window has closed at a tick; a window that closed under an
earlier W stays closed (R151, R156). -/
def Timebase.closedAt (b : Timebase) (t : Tick) : Bool :=
  b.referenceClosed || (decide (b.referenceKind = .predicted) &&
    match b.reference with
    | some r => windowClosed b.window r t
    | none => false)

/-- The Timebase with the three values replaced (R156). -/
def Timebase.configure (b : Timebase) (window missedLimit holdoverLimit : Nat) (t : Tick) : Timebase :=
  { b with window := window, missedLimit := missedLimit, holdoverLimit := holdoverLimit
           referenceClosed := b.closedAt t }

/-- What new limits do at once: HOLDOVER on a missed limit at or below the missed count in LOCKED, FREE on a
holdover limit already elapsed in HOLDOVER (R156). -/
def Timebase.judgeLimits (b : Timebase) (t : Tick) : Timebase :=
  match b.lock with
  | .locked => if b.missedLimit ≤ b.missed then { b with lock := .holdover, holdoverEntry := some t } else b
  | .holdover => if b.holdoverElapsed t then b.loseHoldover else b
  | _ => b

/-- TIME_SET (R156). -/
def execTimeSet (window missedLimit holdoverLimit : Nat) (s : State) : Host.Outcome State Fault Refusal :=
  .next <|
    if timeSetInRange window missedLimit holdoverLimit then
      (s.setTimebase ((s.time.configure window missedLimit holdoverLimit s.tick).judgeLimits s.tick) false none
        s.tick).accept []
    else s.refuse .badValue

/-- TIME_GET: the TIME_STEP status is returned as it stood and then cleared (R157). -/
def execTimeGet (s : State) : Host.Outcome State Fault Refusal :=
  .next <| { s with time := { s.time with timeStep := false } }.accept (s.time.payload s.tick)

end Sys2Proof.Machine
end

