-- ==== Sys2Proof/Machine/Dispatch.lean ====
section
/-! DEFINITION. One arm per command, each a direct call of its meaning. -/

namespace Sys2Proof.Machine

def exec (i : Instr) (s : State) : Host.Outcome State Fault Refusal :=
  match i with
  | .deviceReset found => Sys2Proof.Machine.execDeviceReset found s
  | .send bytes => Sys2Proof.Machine.execSend bytes s
  | .fetch clocked => Sys2Proof.Machine.execFetch clocked s
  | .status clocked => Sys2Proof.Machine.execStatus clocked s
  | .unknownKind first following => Sys2Proof.Machine.execUnknownKind first following s
  | .pointNew edit content => Sys2Proof.Machine.execPointNew edit content s
  | .pointSet handle content => Sys2Proof.Machine.execPointSet handle content s
  | .pointGet handle => Sys2Proof.Machine.execPointGet handle s
  | .pointFind tag => Sys2Proof.Machine.execPointFind tag s
  | .pointList => Sys2Proof.Machine.execPointList s
  | .pointDrop handle => Sys2Proof.Machine.execPointDrop handle s
  | .stateNew edit content => Sys2Proof.Machine.execStateNew edit content s
  | .stateLoad count entries => Sys2Proof.Machine.execStateLoad count entries s
  | .stateSet handle content => Sys2Proof.Machine.execStateSet handle content s
  | .stateGet handle => Sys2Proof.Machine.execStateGet handle s
  | .stateDrop handle => Sys2Proof.Machine.execStateDrop handle s
  | .curveNew edit content => Sys2Proof.Machine.execCurveNew edit content s
  | .curveSet handle content => Sys2Proof.Machine.execCurveSet handle content s
  | .curveGet handle => Sys2Proof.Machine.execCurveGet handle s
  | .curveDrop handle => Sys2Proof.Machine.execCurveDrop handle s
  | .resultGet handle => Sys2Proof.Machine.execResultGet handle s
  | .resultDrop handle => Sys2Proof.Machine.execResultDrop handle s
  | .queueAdd handle => Sys2Proof.Machine.execQueueAdd handle s
  | .queueFirst handle => Sys2Proof.Machine.execQueueFirst handle s
  | .queueRemove handle => Sys2Proof.Machine.execQueueRemove handle s
  | .queueGet => Sys2Proof.Machine.execQueueGet s
  | .runSetup restInterval resetWait policy => Sys2Proof.Machine.execRunSetup restInterval resetWait policy s
  | .runHold => Sys2Proof.Machine.execRunHold s
  | .runRelease => Sys2Proof.Machine.execRunRelease s
  | .shotAbort instant => Sys2Proof.Machine.execShotAbort instant s
  | .runReset instant => Sys2Proof.Machine.execRunReset instant s
  | .chanSet channel config => Sys2Proof.Machine.execChanSet channel config s
  | .chanGet channel => Sys2Proof.Machine.execChanGet channel s
  | .chanUnmute channel => Sys2Proof.Machine.execChanUnmute channel s
  | .chanService channel => Sys2Proof.Machine.execChanService channel s
  | .inputSet input config => Sys2Proof.Machine.execInputSet input config s
  | .inputGet input => Sys2Proof.Machine.execInputGet input s
  | .outputIdleSet mask => Sys2Proof.Machine.execOutputIdleSet mask s
  | .timeSet window missedLimit holdoverLimit => Sys2Proof.Machine.execTimeSet window missedLimit holdoverLimit s
  | .timeGet => Sys2Proof.Machine.execTimeGet s
  | .levelStep level => Sys2Proof.Machine.execLevelStep level s
  | .deviceInfo => Sys2Proof.Machine.execDeviceInfo s
  | .sensedLevelChange tick input closed volts => Sys2Proof.Machine.execSensedLevelChange tick input closed volts s
  | .operate tick input => Sys2Proof.Machine.execOperate tick input s
  | .release tick input => Sys2Proof.Machine.execRelease tick input s
  | .amplifierFaultAssertion tick channel => Sys2Proof.Machine.execAmplifierFaultAssertion tick channel s
  | .faultLineDeassertion tick channel => Sys2Proof.Machine.execFaultLineDeassertion tick channel s
  | .windowEstimate tick channel feedback => Sys2Proof.Machine.execWindowEstimate tick channel feedback s
  | .shotStart tick => Sys2Proof.Machine.execShotStart tick s
  | .stateDurationEnd tick => Sys2Proof.Machine.execStateDurationEnd tick s
  | .inputStateEnd tick => Sys2Proof.Machine.execInputStateEnd tick s
  | .pointOnWaveInception tick => Sys2Proof.Machine.execPointOnWaveInception tick s
  | .resetWaitLimitExpiry tick => Sys2Proof.Machine.execResetWaitLimitExpiry tick s
  | .restEnd tick => Sys2Proof.Machine.execRestEnd tick s
  | .amplifierAbort tick => Sys2Proof.Machine.execAmplifierAbort tick s
  | .timeLostAbort tick => Sys2Proof.Machine.execTimeLostAbort tick s
  | .pulse tick => Sys2Proof.Machine.execPulse tick s
  | .acquisitionWindowCloses tick => Sys2Proof.Machine.execAcquisitionWindowCloses tick s
  | .missedEdge tick => Sys2Proof.Machine.execMissedEdge tick s
  | .predictedEdge tick => Sys2Proof.Machine.execPredictedEdge tick s
  | .holdoverLimitElapses tick => Sys2Proof.Machine.execHoldoverLimitElapses tick s
  | .timeMessage tick characters => Sys2Proof.Machine.execTimeMessage tick characters s
  | .generatorInstant tick feedback => Sys2Proof.Machine.execGeneratorInstant tick feedback s
  | .inputSample tick closed volts => Sys2Proof.Machine.execInputSample tick closed volts s
  | .framingError tick => Sys2Proof.Machine.execFramingError tick s
  | .overlongMessage tick => Sys2Proof.Machine.execOverlongMessage tick s

end Sys2Proof.Machine
end

