-- ==== Sys2Proof/Machine/Step.lean ====
section
/-! DEFINITION. One step: the command at the front of the queue; with no command waiting, the request in hand is
executed, or a tick of the local oscillator passes. -/

namespace Sys2Proof.Machine

/-- One step. With the queue empty, the owning block executes the request in hand and its response is composed
(R165); with none in hand the tick counter advances by one (R147).
DESIGN CHOICE (log entry 1; unsafe): what a step without a waiting command does. -/
def step (s : State) : Host.Outcome State Fault Refusal :=
  match s.pending with
  | c :: rest => exec c { s with pending := rest }
  | [] =>
    match s.port.inHand with
    | some r => exec r s
    | none => .next { s with tick := s.tick + 1 }

/-- The state with the command a table word spells at the front of its queue. -/
def State.withFetchWord (s : State) (nbits w : Nat) : State :=
  match decodeTableWord nbits w with
  | some c => { s with pending := c :: s.pending }
  | none => s

end Sys2Proof.Machine
end

