-- ==== Sys2Proof/Safety.lean ====
section
/-! DEFINITION. What claims about every step are stated in: a step that completes, and the invariants of the
blocks, each read from the rules that describe the block's state. -/

namespace Sys2Proof.Machine

/-- A command that ends in a next state. -/
def Completes (c : Instr) (s : State) : Prop := ∃ t, exec c s = .next t

/-- An invariant that every step keeps. -/
def KeptByStep (inv : State → Prop) : Prop := ∀ s t, inv s → step s = .next t → inv t

/-! ## The Serial Command Port -/

/-- The link: READY holds no response and no request, WORKING a request and no response, ANSWER a whole response
frame; the request buffer never holds more than 244 bytes (R162, R165, R166). -/
def LinkInv (s : State) : Prop :=
  s.port.request.length ≤ Config.bufferBytes ∧
  match s.port.link with
  | .ready => s.port.response = [] ∧ s.port.inHand = none
  | .working => s.port.response = [] ∧ s.port.inHand.isSome
  | .answer => s.port.inHand = none ∧ ∃ code payload, s.port.response = frameOf code payload

/-! ## The Plan Store -/

/-- The tables hold each handle at most once, in range, and no two test points share a tag (R1, R9). -/
structure TablesInv (s : State) : Prop where
  points : s.points.wf Config.pointEntries = true
  states : s.states.wf Config.stateEntries = true
  curves : s.curves.wf Config.curveEntries = true
  tags : ∀ h p k q, s.points.at? h = some p → s.points.at? k = some q → p.content.tag = q.content.tag → h = k
  tagged : ∀ h p, s.points.at? h = some p → p.content.tag ≠ 0

/-- How often the test points' lists name a state, each appearance counted (R14). -/
def State.stateReferences (s : State) (h : Nat) : Nat := (s.points.map fun e => e.2.content.states.count h).sum

/-- How many test points name a characteristic (R14). -/
def State.curveReferences (s : State) (h : Nat) : Nat :=
  (s.points.filter fun e => decide (e.2.content.curve? = some h)).length

/-- Every record named is present, and every reference count is the number of references (R14, R20). -/
structure ReferenceInv (s : State) : Prop where
  tables : TablesInv s
  statesPresent : ∀ k p h, s.points.at? k = some p → h ∈ p.content.states → (s.states.at? h).isSome
  curvesPresent : ∀ k p h, s.points.at? k = some p → p.content.curve? = some h → (s.curves.at? h).isSome
  stateCounts : ∀ h r, s.states.at? h = some r → r.refCount = s.stateReferences h
  curveCounts : ∀ h r, s.curves.at? h = some r → r.refCount = s.curveReferences h

/-! ## The Run Controller -/

/-- The queue and the statuses agree: at most 32 distinct handles, marked entries first, a handle queued exactly
when its test point is QUEUED or SUSPENDED, and at most one ACTIVE test point, which IDLE does not have (R41, R47). -/
structure QueueInv (s : State) : Prop where
  room : s.run.queue.length ≤ Config.queueEntries
  distinct : (s.run.queue.map fun e => e.handle).Nodup
  markedFirst : s.run.queue =
    (s.run.queue.filter fun e => e.marked) ++ s.run.queue.filter fun e => !e.marked
  waiting : ∀ h, (∃ e ∈ s.run.queue, e.handle = h) ↔
    ∃ p, s.points.at? h = some p ∧ (p.status = .queued ∨ p.status = .suspended)
  active : ∀ h, s.run.active = some h ↔ ∃ p, s.points.at? h = some p ∧ p.status = .active
  idle : s.run.state = .idle → s.run.active = none

/-- A search context against its parameters: the limits close in on each other and never meet, shots remain, and the
bracketing shots are the first two, which play the stored limits (R133, R136, R137). -/
def SearchContext.inBounds (c : SearchContext) (p : SearchParams) : Prop :=
  p.lower ≤ c.lower ∧ c.lower < c.upper ∧ c.upper ≤ p.upper ∧ c.shotsUsed < p.maximumShots ∧
  (c.phase = .bracketHigh → c.shotsUsed = 0) ∧ (c.phase = .bracketLow → c.shotsUsed = 1) ∧
  (c.phase = .bisect ∨ c.lower = p.lower ∧ c.upper = p.upper)

/-- Search parameters as their checks leave them (R8). -/
def SearchParams.valid (p : SearchParams) : Prop :=
  p.lower < p.upper ∧ 1 ≤ p.resolution ∧ 3 ≤ p.maximumShots

/-- A test point's search context stands exactly while its search is ACTIVE or SUSPENDED, in bounds (R133). -/
def TestPoint.searchInv (p : TestPoint) : Prop :=
  match p.content.kind with
  | .shot _ _ _ => p.context = none ∧ p.status ≠ .suspended
  | .search params => params.valid ∧
    match p.context with
    | none => p.status = .idle ∨ p.status = .queued
    | some c => (p.status = .active ∨ p.status = .suspended) ∧ c.inBounds params

/-- The Run Controller's invariant: the queue, the statuses and the search contexts. -/
structure RunInv (s : State) : Prop where
  queue : QueueInv s
  searches : ∀ h p, s.points.at? h = some p → p.searchInv

/-! ## The outputs -/

/-- A state of the list is in play (R72, R75). -/
def RunState.stateInPlay : RunState → Bool
  | .playing p =>
    match p.stage with
    | .inPlay _ _ => true
    | .deferred _ => true
    | _ => false
  | _ => false

/-- One channel at rest: silent, unsupervised and NORMAL (R75, R88). -/
def State.channelAtRest (s : State) (c : Chan) : Prop :=
  (s.gen.synths.get c).applied = 0 ∧ (s.gen.synths.get c).peak = 0 ∧ (s.gen.synths.get c).clampNote = none ∧
  (s.channels.get c).window = none ∧ (s.channels.get c).lost = false ∧ (s.channels.get c).qualifying = 0

/-- With no state in play every channel is silent and the binary outputs stand at their idle levels (R75, R76, R88). -/
def RestInv (s : State) : Prop :=
  s.run.state.stateInPlay = false →
    s.gen.snapshot = none ∧ s.gen.outputs = s.idleOutputs ∧ ∀ c, s.channelAtRest c

/-- A channel configuration as its checks leave it (R82). -/
def ChannelConfig.valid (k : ChannelConfig) (c : Chan) : Prop :=
  rangeAllowed c k.range = true ∧ 500 ≤ k.offThreshold ∧ k.offThreshold + 10 ≤ k.onThreshold ∧
  k.onThreshold ≤ 1000 ∧ 1 ≤ k.qualifying ∧ k.qualifying ≤ 16 ∧ 1 ≤ k.overloadLimit ∧ k.overloadLimit ≤ 255

/-- A channel record in its ranges; a FIT channel is below its overload limit; a configuration is pending only
while PLAYING (R81, R83, R92). -/
structure Channel.inv (k : Channel) (c : Chan) (playing : Bool) : Prop where
  config : k.config.valid c
  pending : ∀ p, k.pending = some p → playing = true ∧ p.valid c
  qualifying : k.qualifying < k.config.qualifying
  overloads : k.overloads ≤ 255
  losses : k.losses ≤ 65535
  fit : k.fit = true → k.overloads < k.config.overloadLimit

/-- An input configuration as its checks leave it (R110). -/
def InputConfig.valid (k : InputConfig) : Prop :=
  1 ≤ k.samples ∧ k.samples ≤ 100 ∧
  match k.mode with
  | .dry => True
  | .wet on off => 5 ≤ on ∧ on ≤ 300 ∧ off < on

/-- An input record in its ranges; a configuration is pending only while PLAYING (R95, R111). -/
structure Input.inv (i : Input) (playing : Bool) : Prop where
  config : i.config.valid
  pending : ∀ p, i.pending = some p → playing = true ∧ p.valid
  bounces : i.entry.bounces ≤ 255
  released : i.entry.release.isSome → i.entry.operate.isSome
  standing : i.entry.standing = true → i.entry.operate.isSome

/-- The channels and the inputs, with the outputs at rest when no state is in play. -/
structure UnitInv (s : State) : Prop where
  rest : RestInv s
  channels : ∀ c, (s.channels.get c).inv c s.run.state.isPlaying
  inputs : ∀ n, (s.inputs.get n).inv s.run.state.isPlaying

/-! ## The Timebase -/

/-- A label in range (R153, R155). -/
def Label.valid (l : Label) : Prop := l.day ≤ 65535 ∧ l.second ≤ 86399

/-- What each lock state holds (R149 to R153). -/
def Timebase.lockInv (b : Timebase) : Prop :=
  match b.lock with
  | .free => b.reference = none ∧ b.history = [] ∧ b.label = none ∧ b.acquisition = 0
  | .acquiring => b.reference.isSome ∧ 1 ≤ b.acquisition ∧ b.acquisition ≤ 3 ∧ b.acquisition - 1 ≤ b.history.length
  | .locked => b.reference.isSome ∧ 3 ≤ b.history.length ∧ b.missed < b.missedLimit
  | .holdover => b.reference.isSome ∧ 3 ≤ b.history.length ∧ b.holdoverEntry.isSome

/-- The Timebase in its ranges (R147, R149 to R156). -/
structure TimeInv (s : State) : Prop where
  setup : timeSetInRange s.time.window s.time.missedLimit s.time.holdoverLimit = true
  lock : s.time.lockInv
  history : s.time.history.length ≤ 4
  intervals : ∀ i ∈ s.time.history, 999000 ≤ i ∧ i ≤ 1001000
  label : ∀ l, s.time.label = some l → l.valid
  held : ∀ l, s.time.held = some l → l.valid
  counts : s.time.spurious ≤ 65535 ∧ s.time.discards ≤ 65535

/-! ## Results -/

/-- An expected time lies in its band (R35). -/
def Expected.ordered (e : Expected) : Prop := e.low ≤ e.time ∧ e.time ≤ e.high

/-- What every result satisfies: a reason exactly when ABORTED, no doubt flag on PASS, SHORT_WINDOW only on
INCONCLUSIVE, the count in range and the expected time in its band (R121 to R123). -/
structure Result.inv (r : Result) : Prop where
  reason : r.reason.isSome ↔ r.verdict = .aborted
  pass : r.verdict = .pass → r.flags.prefault = false ∧ r.flags.clamped = false ∧ r.flags.compliance = false
  shortWindow : r.flags.shortWindow = true → r.verdict = .inconclusive ∧ r.measured = none
  runCount : r.runCount ≤ 255
  expected : ∀ e, r.expected = some e → e.ordered

/-- Every result kept, and the working values of the shot in hand (R35, R121 to R123). -/
structure ResultInv (s : State) : Prop where
  results : ∀ h p r, s.points.at? h = some p → p.result = some r → r.inv
  working : ∀ w e, s.shot.working = some w → w.expected? = some e → e.ordered

/-! ## Revisions -/

/-- A characteristic's revision as a test point's CURVE expectation names it. -/
def State.revisionOf (s : State) (p : TestPoint) : Option Nat :=
  (p.content.curve?.bind fun k => s.curves.at? k).map fun c => c.revision

/-- A result that is not STALE and carries a curve revision carries the revision in force; so do the working values
of the shot in hand (R24, R36). -/
structure RevisionInv (s : State) : Prop where
  results : ∀ h p r v, s.points.at? h = some p → p.result = some r → r.flags.stale = false → r.revision = some v →
    s.revisionOf p = some v
  working : ∀ w v, s.shot.working = some w → w.revision? = some v →
    ∃ h p, s.activePoint = some (h, p) ∧ s.revisionOf p = some v

/-! ## What claims about commands say -/

/-- The port after a request is answered: ANSWER, one response frame, no request in hand (R165, R170). -/
def Port.answered (p : Port) (code : Nat) (payload : List Byte) : Port :=
  { p with link := .answer, response := frameOf code payload, inHand := none }

/-- A request refused with a code: nothing changes but the port's answer (R170). -/
def RefusedWith (c : Instr) (s : State) (code : Nat) : Prop :=
  exec c s = .next { s with port := s.port.answered code [] }

/-- A generator instant that the tick counter has not passed. -/
def State.instantAhead (s : State) (t : Tick) : Prop := t.isGeneratorInstant = true ∧ Tick.reached s.tick t = true

/-- An input sample instant that the tick counter has not passed. -/
def State.sampleAhead (s : State) (t : Tick) : Prop := t.isInputInstant = true ∧ Tick.reached s.tick t = true

/-- The outputs are at rest (R75, R76, R88). -/
structure AtRest (s : State) : Prop where
  snapshot : s.gen.snapshot = none
  outputs : s.gen.outputs = s.idleOutputs
  channels : ∀ c, s.channelAtRest c

/-- A channel record at rest: NORMAL, count 0, no window (R85, R88). -/
def Channel.resting (k : Channel) : Channel := { k with lost := false, qualifying := 0, window := none }

/-- Every channel goes to rest and its configuration stays (R75, R88). -/
def ChannelsRested (s u : State) : Prop := ∀ c, u.channels.get c = (s.channels.get c).resting

/-- Every channel goes to rest and every pending configuration is put in force: a limit at or below the overload
count makes a FIT channel UNFIT, and entering WET from DRY clears the wet memory (R82, R83, R97, R111). -/
structure PendingApplied (s u : State) : Prop where
  channels : ∀ c, u.channels.get c =
    match (s.channels.get c).pending with
    | none => (s.channels.get c).resting
    | some k => { (s.channels.get c).resting with
        config := k
        pending := none
        fit := (s.channels.get c).fit && decide ((s.channels.get c).overloads < k.overloadLimit) }
  inputs : ∀ n, u.inputs.get n =
    match (s.inputs.get n).pending with
    | none => s.inputs.get n
    | some k => { s.inputs.get n with
        config := k
        pending := none
        wetMemory := (s.inputs.get n).wetMemory && !(k.mode.isWet && !(s.inputs.get n).config.mode.isWet) }

/-- What a flag, or an enumerated field of codes 0 and 1, sends: 1 for true (R171; for flags log entry 34). -/
def bit (b : Bool) : Nat := if b then 1 else 0

/-- The payload of POINT_GET for a test point, field by field; what does not apply or is absent is 0 (R21, R171). -/
structure TestPoint.LaidOut (p : TestPoint) (x : List Byte) : Prop where
  length : x.length = 54 + p.content.states.length
  level : fieldAt x 0 1 = p.editLevel
  tag : fieldAt x 1 4 = p.content.tag
  fault : fieldAt x 6 1 = p.content.faultPosition
  start : (fieldAt x 7 1, fieldAt x 8 2, fieldAt x 10 3, fieldAt x 13 3) =
    match p.content.start with
    | .immediate => (0, 0, 0, 0)
    | .atTime day second offset => (1, day, second, offset)
  monitored : fieldAt x 16 2 = p.content.monitored.toNat ∧ fieldAt x 18 1 = bit (p.content.combine = .all)
  shot : ∀ e percent absolute, p.content.kind = .shot e percent absolute →
    fieldAt x 5 1 = 0 ∧ fieldAt x 25 1 = percent ∧ fieldAt x 26 4 = absolute ∧ fieldAt x 30 14 = 0 ∧
    (fieldAt x 19 1, fieldAt x 20 4, fieldAt x 24 1) =
      match e with
      | .none => (0, 0, 0)
      | .fixed time => (1, time, 0)
      | .curve h => (2, 0, h)
      | .noTrip => (3, 0, 0)
  search : ∀ k, p.content.kind = .search k →
    fieldAt x 5 1 = 1 ∧ fieldAt x 19 11 = 0 ∧ fieldAt x 30 1 = k.varied.toNat ∧ fieldAt x 31 2 = k.lower ∧
    fieldAt x 33 2 = k.upper ∧ fieldAt x 35 2 = k.resolution ∧ fieldAt x 37 1 = k.maximumShots ∧
    fieldAt x 38 1 = bit (k.policy = .abort) ∧ fieldAt x 39 2 = k.boundary ∧ fieldAt x 41 1 = k.tolerancePercent ∧
    fieldAt x 42 2 = k.toleranceAbsolute
  states : fieldAt x 44 1 = p.content.states.length ∧
    ∀ (j h : Nat), p.content.states[j]? = some h → fieldAt x (45 + j) 1 = h
  status : [Status.idle, .queued, .active, .suspended][fieldAt x (45 + p.content.states.length) 1]? = some p.status
  context :
    let c := 46 + p.content.states.length
    match p.context with
    | none => fieldAt x c 7 = 0
    | some k => fieldAt x c 1 = 1 ∧
      [SearchPhase.bracketHigh, .bracketLow, .bisect][fieldAt x (c + 1) 1]? = some k.phase ∧
      fieldAt x (c + 2) 2 = k.lower ∧ fieldAt x (c + 4) 2 = k.upper ∧ fieldAt x (c + 6) 1 = k.shotsUsed
  result : fieldAt x (53 + p.content.states.length) 1 =
    bit p.result.isSome + 2 * bit ((p.result.map fun r => r.flags.unread) = some true)

/-- Five values of a channel configuration at an offset, or zeros where there is none (R171). -/
def channelValuesAt (x : List Byte) (offset : Nat) (k : Option ChannelConfig) : Prop :=
  (fieldAt x offset 2, fieldAt x (offset + 2) 2, fieldAt x (offset + 4) 2, fieldAt x (offset + 6) 1,
    fieldAt x (offset + 7) 1) =
    match k with
    | none => (0, 0, 0, 0, 0)
    | some c => (c.range, c.offThreshold, c.onThreshold, c.qualifying, c.overloadLimit)

/-- The payload of CHAN_GET for a channel record, field by field (R84, R171); the code of the fault line level is the
model's (log entry 34). -/
structure Channel.LaidOut (k : Channel) (x : List Byte) : Prop where
  length : x.length = 24
  config : channelValuesAt x 0 (some k.config)
  pending : fieldAt x 8 1 = bit k.pending.isSome ∧ channelValuesAt x 9 k.pending
  flags : fieldAt x 17 1 = bit k.mute ∧ fieldAt x 18 1 = bit k.faultLine ∧ fieldAt x 19 1 = bit k.lost
  counts : fieldAt x 20 1 = k.overloads ∧ fieldAt x 21 2 = k.losses
  fitness : fieldAt x 23 1 = bit (!k.fit)

/-- The values of an input configuration at an offset, or zeros where there is none; thresholds are 0 in DRY mode
(R112, R171). -/
def inputValuesAt (x : List Byte) (offset : Nat) (k : Option InputConfig) : Prop :=
  (fieldAt x offset 1, fieldAt x (offset + 1) 2, fieldAt x (offset + 3) 2, fieldAt x (offset + 5) 1,
    fieldAt x (offset + 6) 1) =
    match k with
    | none => (0, 0, 0, 0, 0)
    | some c =>
      match c.mode with
      | .dry => (0, 0, 0, c.samples, bit c.inverted)
      | .wet on off => (1, on, off, c.samples, bit c.inverted)

/-- The payload of INPUT_GET for an input record and the idle levels, field by field (R112, R171); the code of the
sensed level is the model's (log entry 34). -/
structure Input.LaidOut (i : Input) (idle : BitVec 4) (x : List Byte) : Prop where
  length : x.length = 33
  config : inputValuesAt x 0 (some i.config)
  pending : fieldAt x 7 1 = bit i.pending.isSome ∧ inputValuesAt x 8 i.pending
  sensed : fieldAt x 15 1 = bit i.sensed
  qualification : (fieldAt x 16 1, fieldAt x 17 1) =
    match i.qualification with
    | .inactive => (0, 0)
    | .pendingOn run _ => (1, run)
    | .active => (2, 0)
    | .pendingOff run _ => (3, run)
  operate : fieldAt x 18 6 = (i.entry.operate.map BitVec.toNat).getD 0
  release : fieldAt x 24 6 = (i.entry.release.map BitVec.toNat).getD 0
  marks : fieldAt x 30 1 =
    bit i.entry.operate.isSome + 2 * bit i.entry.release.isSome + 4 * bit i.entry.standing
  bounces : fieldAt x 31 1 = i.entry.bounces
  idle : fieldAt x 32 1 = idle.toNat

/-- A test point that has left ACTIVE or SUSPENDED for IDLE with a result posted (R47, R126). -/
structure TestPoint.Posted (p q : TestPoint) (r : Result) : Prop where
  record : q = { p with status := .idle, context := none, result := some r }
  unread : r.flags.unread = true
  fresh : r.flags.stale = false
  count : r.runCount = if r.verdict = .aborted then (p.result.map fun k => k.runCount).getD 0
    else min 255 ((p.result.map fun k => k.runCount).getD 0 + 1)

/-- A test point that an abort has posted on (R61, R140). -/
def TestPoint.AbortedTo (p q : TestPoint) (reason : AbortReason) : Prop :=
  ∃ r, p.Posted q r ∧ r.verdict = .aborted ∧ r.reason = some reason

/-- The synthesisers at rest: amplitude and peak code 0, no clamp note, the rest of each and its accumulator as they
were (R75). -/
def Silenced (s u : State) : Prop :=
  ∀ c, u.gen.synths.get c = { s.gen.synths.get c with applied := 0, peak := 0, clampNote := none }

/-- The CHANNEL cause is raised exactly where a FIT channel became UNFIT (R94). -/
def UnfitRaises (s u : State) : Prop :=
  u.port.channel = true ↔
    s.port.channel = true ∨ ∃ c, (s.channels.get c).fit = true ∧ (u.channels.get c).fit = false

/-- An abort of the ACTIVE test point at an instant: an ABORTED result posted, outputs at rest, REST entered; the
other records, the time reference and the waiting commands stay (R61). -/
structure AbortedAt (s u : State) (h : Nat) (p : TestPoint) (reason : AbortReason) (t : Tick) : Prop where
  posted : ∃ q, u.points.at? h = some q ∧ p.AbortedTo q reason
  others : ∀ k, k ≠ h → u.points.at? k = s.points.at? k
  run : u.run = { s.run with active := none, state := .rest t s.run.setup.restInterval false none }
  rest : AtRest u
  silenced : Silenced s u
  playing : s.run.state.isPlaying = true → PendingApplied s u
  waiting : s.run.state.isPlaying = false → ChannelsRested s u ∧ u.inputs = s.inputs
  cause : UnfitRaises s u
  frame : u = { s with
    tick := t
    points := u.points
    run := u.run
    gen := { s.gen with synths := u.gen.synths, snapshot := none, outputs := s.idleOutputs }
    channels := u.channels
    inputs := u.inputs
    shot := { s.shot with working := none, clampNotes := u.shot.clampNotes }
    port := u.port }

/-- The commands that abort the ACTIVE test point at a generator instant, each with its reason: SHOT_ABORT, run reset, a
reported amplifier fault while PLAYING or kept in the REST of a search, a report that lost the time, and the expired
reset-wait limit (R52, R53, R62 to R64, R144). -/
def State.AbortsAt (s : State) (t : Tick) (i : Instr) (reason : AbortReason) : Prop :=
  i = .shotAbort t ∧ reason = .command ∨ i = .runReset t ∧ reason = .runReset ∨
  i = .amplifierAbort t ∧ reason = .amplifier ∧ (∃ r, Tick.reached r t = true ∧
    ((∃ play, s.run.state = .playing play ∧ play.fault = some r) ∨
      ∃ since interval ended, s.run.state = .rest since interval ended (some r))) ∨
  i = .timeLostAbort t ∧ reason = .timeLost ∧ (∃ wait r, s.run.state = .startWait wait ∧ wait.lost = some r ∧
    Tick.reached r t = true) ∨
  i = .resetWaitLimitExpiry t ∧ reason = .notReset ∧ ∃ since limit, s.run.state = .resetWait since limit ∧
    Tick.reached (since + BitVec.ofNat 48 (1000 * limit)) t = true

/-! ### What results hold -/

/-- The trip instant: the criterion timestamp, when the criterion qualified, inception was reached and the timestamp
does not lie before the inception tick (R116). -/
def ShotRecord.tripInstant (r : ShotRecord) : Option Tick :=
  match r.inception, r.criterion with
  | some i, some k => if Tick.before k.timestamp i then none else some k.timestamp
  | _, _ => none

/-- The measured time: the trip instant minus the inception tick (R116). -/
def ShotRecord.tripTime (r : ShotRecord) : Option Nat :=
  r.tripInstant.map fun k => Tick.elapsed (r.inception.getD k) k

/-- A table entry with an operate tick counts as operated before inception: inception was not reached, the entry is
standing, or its operate tick lies before the inception tick (R118, R125). -/
def TableEntry.Early (e : TableEntry) (inception : Option Tick) : Prop :=
  ∀ i, inception = some i → e.standing = true ∨ ∃ o, e.operate = some o ∧ Tick.before o i = true

/-- A monitored input operated before inception (R118). -/
def State.OperatedEarly (s : State) (c : PointContent) : Prop :=
  ∃ n : Inp, n.isIn c.monitored = true ∧ (s.inputs.get n).entry.operate.isSome ∧
    (s.inputs.get n).entry.Early s.shot.inception

/-- Delivery is in doubt by clamping over a judged interval: a clamp note, of a state that has ended or of the state in
play, has its entry tick in it (R119). -/
def State.ClampedIn (s : State) (inception ended : Tick) : Prop :=
  (∃ n ∈ s.shot.clampNotes, Tick.within inception ended n.entry = true) ∨
    ∃ c e, (s.gen.synths.get c).clampNote = some e ∧ Tick.within inception ended e = true

/-- Whether a channel stood LOST just before a tick: by its last change decided from inception on and before the tick,
or with none by its compliance at inception (R115, R120). -/
def ShotRecord.stoodLost (r : ShotRecord) (c : Chan) (inception t : Tick) : Bool :=
  match (r.changes.filter fun k =>
      decide (k.channel = c) && Tick.reached inception k.decision && Tick.before k.decision t).getLast? with
  | some k => k.lost
  | none => (r.complianceAtInception.map fun p => p.get c).getD false

/-- Delivery is in doubt by compliance over a judged interval: a channel changed to LOST in it, or stood LOST when a
state that sets it above zero was entered in it (R120). -/
def ShotRecord.LostIn (r : ShotRecord) (inception ended : Tick) : Prop :=
  ∃ c, (∃ k ∈ r.changes, k.channel = c ∧ k.lost = true ∧ Tick.within inception ended k.decision = true) ∨
    ∃ e ∈ r.entries, Tick.within inception ended e.entry = true ∧ 0 < e.amplitudes.get c ∧
      r.stoodLost c inception e.entry = true

/-- The operated-inputs list of the shot in hand: one entry for each input with an operate tick, its times relative to
inception or 0 where the entry counts as operated before it, by operate time and then by input number (R125). That a
release time is 0 with the operate time is log entry 14. -/
structure State.OperatedListed (s : State) (list : List OperatedEntry) : Prop where
  holds : ∀ n : Inp, (∃ e ∈ list, e.input = n) ↔ (s.inputs.get n).entry.operate.isSome
  times : ∀ e ∈ list,
    let k := (s.inputs.get e.input).entry
    (k.Early s.shot.inception → e.operate = 0 ∧ e.release = k.release.map fun _ => 0) ∧
    ∀ i, ¬ k.Early s.shot.inception → s.shot.inception = some i →
      k.operate.map (Tick.elapsed i) = some e.operate ∧ e.release = k.release.map (Tick.elapsed i)
  order : list.Pairwise fun a b =>
    a.operate < b.operate ∨ a.operate = b.operate ∧ a.input.number < b.input.number

/-- What the schedule check gives for a start mode: no failure, or a reason (R159). -/
def State.ScheduleGives (s : State) (start : StartMode) (failure : Option AbortReason) : Prop :=
  match start, s.time.label with
  | .immediate, _ => failure = none
  | .atTime _ _ _, none => failure = some .timeLost
  | .atTime day second _, some l =>
    let trusted := s.time.lock = .locked ∨ s.time.lock = .holdover ∧ s.run.setup.policy = .holdoverOk
    ∃ lead : Int, -2831155200 ≤ lead ∧ lead ≤ 2831155199 ∧
      (5662310400 : Int) ∣ lead - ((86400 * day + second : Nat) - (86400 * l.day + l.second : Nat) : Int) ∧
      (¬ trusted ∧ failure = some .timeLost ∨ trusted ∧ lead < 2 ∧ failure = some .lateStart ∨
        trusted ∧ 3600 < lead ∧ failure = some .tooFar ∨ trusted ∧ 2 ≤ lead ∧ lead ≤ 3600 ∧ failure = none)

/-- A channel the shot of a test point will drive: a state of its list sets it above zero, or its search varies it (R51). -/
def State.Covered (s : State) (c : PointContent) (ch : Chan) : Prop :=
  (∃ h ∈ c.states, ∃ r, s.states.at? h = some r ∧ 0 < (r.content.settings.get ch).amplitude) ∨
    ∃ params, c.kind = .search params ∧ ch.isIn params.varied = true

/-- Every channel the shot will drive is FIT (R51). -/
def State.ChannelsFit (s : State) (c : PointContent) : Prop := ∀ ch, s.Covered c ch → (s.channels.get ch).fit = true

/-- Every monitored input stands in INACTIVE (R109). -/
def State.RelayHasReset (s : State) (c : PointContent) : Prop :=
  ∀ n : Inp, n.isIn c.monitored = true → (s.inputs.get n).qualification = .inactive

/-- Where a test point that passed its checks goes on: PLAYING with the next generator instant as its start instant,
or START_WAIT under the policy in force (R50). -/
def State.goesOn (s : State) (c : PointContent) (t : Tick) : RunState :=
  match c.start with
  | .immediate => .playing { stage := .ready (Tick.instantAfter t), fault := none }
  | .atTime _ _ _ => .startWait { policy := s.run.setup.policy, start := none, lost := none }

/-- A time message's content for a label, with its check (R155). -/
def Label.message (l : Label) : List Byte :=
  let named := bytesOf 2 l.day ++ bytesOf 3 l.second ++ bytesOf 1 l.quality
  named ++ bytesOf 2 (crcOf named).toNat

/-- A content as it travels between flags: flag and escape bytes escaped (R154). -/
def escaped (content : List Byte) : List Byte :=
  content.flatMap fun b => if b = 0x7E ∨ b = 0x7D then [0x7D, b ^^^ 0x20] else [b]

/-- A state entered at an instant: the snapshot, every synthesiser, the binary outputs and the windows; the
accumulators run on (R72 to R76, R85, R88). -/
structure StateEntered (s u : State) (h : Nat) (k : StateContent) (t : Tick) : Prop where
  generator : u.gen = { s.gen with
    synths := u.gen.synths, snapshot := some { handle := h, content := k }, outputs := k.outputs }
  synths : ∀ c, u.gen.synths.get c = { s.gen.synths.get c with
    frequency := (k.settings.get c).frequency
    step := phaseStep (k.settings.get c).frequency
    offset := phaseOf (k.settings.get c).angle
    applied := min (k.settings.get c).amplitude (s.channels.get c).config.range
    peak := roundHalfUp (32767 * min (k.settings.get c).amplitude (s.channels.get c).config.range)
      (s.channels.get c).config.range
    clampNote := if (s.channels.get c).config.range < (k.settings.get c).amplitude then some t else none }
  channels : ∀ c, u.channels.get c = { s.channels.get c with
    qualifying := 0
    window :=
      if (s.channels.get c).config.range ≤ min (k.settings.get c).amplitude (s.channels.get c).config.range * 100
      then some { settling := true, taken := 0, sum := 0 } else none }

/-- The clamp notes of the state in play, each ended at a tick, join those handed over (R74). -/
def NotesHanded (s u : State) (t : Tick) : Prop :=
  ∀ n : ClampNote, n ∈ u.shot.clampNotes ↔
    n ∈ s.shot.clampNotes ∨ n.ended = t ∧ (s.gen.synths.get n.channel).clampNote = some n.entry

/-- At inception the tick, the compliance of every channel and the working values are taken (R35, R115). -/
structure InceptionAt (s u : State) (c : PointContent) (fault : StateContent) (t : Tick) : Prop where
  inception : u.shot.inception = some t
  compliance : ∃ k, u.shot.complianceAtInception = some k ∧ ∀ ch, k.get ch = (s.channels.get ch).lost
  working : u.shot.working = s.formWorking c fault

/-! ## What claims about the Timebase say -/

/-- A rise of PPS that can be captured at a tick not passed: the line was not last read at that tick, nor read high at
the tick before it (R148, R177; log entry 28). -/
def State.riseAhead (s : State) (t : Tick) : Prop :=
  Tick.reached s.tick t = true ∧ t ≠ s.time.pps.readAt ∧ (s.time.pps.high = true → t ≠ s.time.pps.readAt + 1)

/-- One second later, the quality kept (R153). -/
def Label.later (l : Label) : Label :=
  if l.second = 86399 then { day := (l.day + 1) % 65536, second := 0, quality := l.quality }
  else { day := l.day, second := l.second + 1, quality := l.quality }

/-- The held message names another second than the one after the label's (R153). -/
def Timebase.stepsAhead (b : Timebase) : Bool :=
  match b.held, b.label with
  | some m, some l => decide (m.day ≠ l.later.day ∨ m.second ≠ l.later.second)
  | _, _ => false

/-- A second edge as R148 and R153 describe it: the label moves, a step is noted, and the edge is the reference. -/
def Timebase.atEdge (b : Timebase) (kind : EdgeKind) (edge : Tick) (restart : Bool) : Timebase :=
  { b with
    label := match b.held with
      | some m => some m
      | none => if restart then none else b.label.map Label.later
    held := none
    timeStep := b.timeStep || b.stepsAhead
    reference := some edge
    referenceKind := kind
    referenceClosed := false }

/-- The measured interval of a history, the mean rounded half up (R152). -/
def meanOf (history : List Nat) : Nat := (2 * history.sum + history.length) / (2 * history.length)

/-- An interval joins the history, the oldest of four leaving (R152). -/
def joined (history : List Nat) (interval : Nat) : List Nat :=
  (if history.length < 4 then history else history.drop 1) ++ [interval]

/-- An event of the Timebase at a tick: its new state, the TIME cause on a change of lock or a step of the label, and
outside START_WAIT nothing else (R158). -/
structure TimebaseMoves (s u : State) (t : Tick) (b : Timebase) (stepped : Bool) : Prop where
  time : u.time = b
  frame : u = { s with
    tick := t, time := b, run := { s.run with state := u.run.state }
    port := { s.port with time := s.port.time || decide (s.time.lock ≠ b.lock) || stepped } }
  run : (∀ w, s.run.state ≠ .startWait w) → u.run = s.run

end Sys2Proof.Machine
end

