-- ==== Sys2Proof/Certificates/Slice0/Obligations.lean ====
section
/-! DEFINITION. The statements for the provers, each read from the rules its docstring names. -/

open Sys2Proof Sys2Proof.Machine

/-! ## Steps and reset -/

/-- A step takes the command at the front of the queue and runs it with the queue's rest. With no command waiting it
executes the request in hand, or one tick passes (R147, R165); what a step without a command does is the model's
choice (log entry 1). -/
def Obligations.StepRunsTheFrontCommand : Prop :=
  (∀ (c : Instr) (rest : List Instr) (s : State), s.pending = c :: rest → step s = exec c { s with pending := rest }) ∧
  (∀ s : State, s.pending = [] →
     (∀ r, s.port.inHand = some r → step s = exec r s) ∧
     (s.port.inHand = none → step s = .next { s with tick := s.tick + 1 }))

/-- After device reset: empty tables and queue, level 0, IDLE with the default setup, silent synthesisers at 50 Hz,
default channel and input records, a FREE Timebase, and a READY port with no cause; and every invariant holds (R1,
R3, R65, R66, R81, R95, R147, R162). -/
def Obligations.ResetLeavesEveryBlockAtItsValues : Prop :=
  (let s := State.reset
   (s.tick = 0 ∧ s.level = 0 ∧ s.points = [] ∧ s.states = [] ∧ s.curves = []) ∧
   (s.run.queue = [] ∧ s.run.state = .idle ∧ s.run.active = none ∧ s.run.hold = false ∧
     s.run.setup = { restInterval := 1000, resetWait := 5000, policy := .lockedOnly }) ∧
   (∀ c, (s.gen.synths.get c).accumulator = 0 ∧ (s.gen.synths.get c).frequency = 50000 ∧
     (s.gen.synths.get c).step = phaseStep 50000 ∧ (s.gen.synths.get c).offset = 0) ∧
   (AtRest s ∧ s.idleOutputs = 0) ∧
   (∀ c, (s.channels.get c).config = ChannelConfig.mk (if c.number ≤ 4 then 15000 else 8000) 900 950 2 3 ∧
     (s.channels.get c).pending = none ∧ (s.channels.get c).overloads = 0 ∧ (s.channels.get c).losses = 0 ∧
     (s.channels.get c).fit = true) ∧
   (∀ n, (s.inputs.get n).config = { mode := .dry, samples := 20, inverted := false } ∧
     (s.inputs.get n).qualification = .inactive ∧ (s.inputs.get n).wetMemory = false ∧
     (s.inputs.get n).pending = none ∧ (s.inputs.get n).entry = TableEntry.clear) ∧
   (s.time.lock = .free ∧ s.time.window = 200 ∧ s.time.missedLimit = 4 ∧ s.time.holdoverLimit = 60 ∧
     s.time.reference = none ∧ s.time.history = [] ∧ s.time.label = none ∧ s.time.held = none ∧
     s.time.spurious = 0 ∧ s.time.discards = 0 ∧ s.time.timeStep = false) ∧
   (s.port.link = .ready ∧ s.port.request = [] ∧ s.port.response = [] ∧ s.attnLow = false)) ∧
  (LinkInv State.reset ∧ ReferenceInv State.reset ∧ RunInv State.reset ∧ RevisionInv State.reset ∧
     UnitInv State.reset ∧ TimeInv State.reset ∧ ResultInv State.reset)

/-- DEVICE_RESET puts every block at its device-reset values from any state; a fault line found asserted mutes its
channel without being counted, and no attention cause is raised. The lines as found at tick 0 are where every edge and
change starts: at tick 0 itself no assertion is counted and no pulse taken, a fault line found asserted is not counted
before it has been found deasserted, and PPS found high is no rise (R65, R81, R94, R176, R177). The waiting commands
are the sender's and stay (log entry 5). -/
def Obligations.DeviceResetRestoresEveryBlock : Prop :=
  ∀ (s : State) (lines : BitVec 8) (high : Bool), ∃ u, exec (.deviceReset ⟨lines, high⟩) s = .next u ∧
    u = { State.reset with
      channels := u.channels
      time := { State.reset.time with pps := { high := high, readAt := 0 } }
      pending := s.pending } ∧
    (∀ c, u.channels.get c =
      { State.reset.channels.get c with mute := lines.getLsbD (c.number - 1), faultLine := lines.getLsbD (c.number - 1) }) ∧
    u.attnLow = false ∧
    (∀ c, exec (.amplifierFaultAssertion 0 c) u = .next u ∧
      (lines.getLsbD (c.number - 1) = true → ∀ t, Tick.reached 0 t = true →
        exec (.amplifierFaultAssertion t c) u = .next { u with tick := t })) ∧
    exec (.pulse 0) u = .next u ∧ (high = true → exec (.pulse 1) u = .next { u with tick := 1 })

/-! ## The Serial Command Port -/

/-- A whole frame sent in READY is received and dispatched: a request the tables name is in hand with the link
WORKING, and UNKNOWN_COMMAND and BAD_LENGTH are answered at once (R163, R164, R165). The model's own choices here:
log entries 4, 6. -/
def Obligations.SendOfAWholeFrameIsDispatched : Prop :=
  ∀ (s : State) (code : Nat) (payload : List Byte),
    s.port.link = .ready → code < 256 → payload.length ≤ 240 →
    ∃ u, exec (.send (frameOf code payload)) s = .next u ∧
      u.port.request = frameOf code payload ∧
      u.port.shifted = 0x01 :: List.replicate (payload.length + 4) 0 ∧
      match readRequest (Tick.instantAfter s.tick) code payload with
      | .request r => u = { s with port := { s.port with
          link := .working, inHand := some r, request := u.port.request, shifted := u.port.shifted } }
      | .unknownCommand => u = { s with port :=
          { s.port.answered 0x12 [] with request := u.port.request, shifted := u.port.shifted } }
      | .badLength => u = { s with port :=
          { s.port.answered 0x13 [] with request := u.port.request, shifted := u.port.shifted } }

/-- The first whole byte of a transaction decides it: SEND, FETCH, STATUS, or none of them; without one it is no
transaction. A frame cut short sets FRAME_CUT and draws no response; one with a length byte above 240, with bytes in
excess or with a wrong CRC is answered with FRAME_ERROR. A SEND begun outside READY and a first byte that names no
kind set REFUSED and leave the request in hand and the response waiting. All raise LINK and execute nothing (R162,
R163, R164, R169). The model's own choices here: log entries 4, 33. -/
def Obligations.FaultyFramesAndTransactionsExecuteNothing : Prop :=
  (transactionOf [] = none ∧
   (∀ bytes : List Byte, transactionOf (0x5A :: bytes) = some (.send bytes) ∧
     transactionOf (0xA5 :: bytes) = some (.fetch (bytes.length + 1)) ∧
     transactionOf (0x3C :: bytes) = some (.status (bytes.length + 1)) ∧
     ∀ first : Byte, first ≠ 0x5A → first ≠ 0xA5 → first ≠ 0x3C →
       transactionOf (first :: bytes) = some (.unknownKind first bytes.length)) ∧
   ∀ s : State, exec (.fetch 0) s = .next s ∧ exec (.status 0) s = .next s) ∧
  (∀ (s : State) (bytes : List Byte), s.port.link = .ready →
     let length := (bytes.getD 1 0).toNat
     let taken := { s.port with request := bytes.take 244, shifted := 0x01 :: List.replicate bytes.length 0 }
     ((bytes.length < 4 ∨ bytes.length < 4 + length) →
       exec (.send bytes) s = .next { s with port := { taken with frameCut := true, linkCause := true } }) ∧
     (4 ≤ bytes.length → 4 + length ≤ bytes.length →
       (240 < length ∨ 4 + length < bytes.length ∨
         valueOf ((bytes.drop (2 + length)).take 2) ≠ (crcOf (bytes.take (2 + length))).toNat) →
       exec (.send bytes) s = .next { s with port := { taken.answered 0x10 [] with linkCause := true } })) ∧
  (∀ (s : State),
     (∀ bytes : List Byte, s.port.link ≠ .ready → exec (.send bytes) s = .next { s with port := { s.port with
       refused := true, linkCause := true
       shifted := BitVec.ofNat 8 s.port.link.code :: List.replicate bytes.length 0 } }) ∧
     (∀ (first : Byte) (n : Nat), first ≠ 0x5A → first ≠ 0xA5 → first ≠ 0x3C →
       exec (.unknownKind first n) s = .next { s with port := { s.port with
         refused := true, linkCause := true
         shifted := BitVec.ofNat 8 s.port.link.code :: List.replicate n 0 } }))

/-- A FETCH in ANSWER shifts out the response; only one that shifts out its last byte returns the link to READY and
empties the buffer. Elsewhere it shifts out an empty NO_ANSWER frame and changes nothing (R166). The model's own
choices here: log entry 4. -/
def Obligations.FetchReturnsTheResponse : Prop :=
  ∀ (s : State) (n : Nat), 1 ≤ n →
    let out := fun frame : List Byte =>
      (BitVec.ofNat 8 s.port.link.code :: frame).take n ++ List.replicate (n - (frame.length + 1)) 0
    (s.port.link = .answer → s.port.response.length < n →
      exec (.fetch n) s = .next { s with port := { s.port with
        link := .ready, response := [], shifted := out s.port.response } }) ∧
    (s.port.link = .answer → n ≤ s.port.response.length →
      exec (.fetch n) s = .next { s with port := { s.port with shifted := out s.port.response } }) ∧
    (s.port.link ≠ .answer →
      exec (.fetch n) s = .next { s with port := { s.port with shifted := out (frameOf 0x11 []) } })

/-- A STATUS read shifts out the four-byte block and, once its attention byte is out, clears every event cause and
status; RESULT stays, and ATTN is then low by RESULT alone (R127, R167, R168, R169). The model's own choices here:
log entry 4. -/
def Obligations.StatusReadClearsTheEventCauses : Prop :=
  ∀ (s : State) (n : Nat), 1 ≤ n →
    let bit := fun (b : Bool) (k : Nat) => if b then 2 ^ k else 0
    let attention := bit s.resultCause 0 + bit s.port.queueEmpty 1 + bit s.port.time 2 + bit s.port.channel 3 +
      bit s.port.linkCause 4 + bit s.port.refused 5 + bit s.port.frameCut 6
    let block : List Byte := [BitVec.ofNat 8 s.port.link.code, BitVec.ofNat 8 attention,
      BitVec.ofNat 8 (s.run.state.code + bit s.run.hold 3),
      BitVec.ofNat 8 (s.time.lock.code + bit s.time.label.isSome 2)]
    ∃ u, exec (.status n) s = .next u ∧
      u.port.shifted = block.take n ++ List.replicate (n - 4) 0 ∧
      u.resultCause = s.resultCause ∧
      (n = 1 → u = { s with port := { s.port with shifted := u.port.shifted } }) ∧
      (2 ≤ n → u = { s with port := { s.port with
          queueEmpty := false, time := false, channel := false, linkCause := false, refused := false
          frameCut := false, shifted := u.port.shifted } } ∧ u.attnLow = u.resultCause)

/-- A received frame is read by the command tables: every command code with its fields at their offsets, high byte
first, and BAD_LENGTH for any other length than the layout's, or than the one its own count gives; a STATE_LOAD count
out of range is passed on; any other code is UNKNOWN_COMMAND. The contents that POINT_GET, STATE_GET and CURVE_GET send
are read back as the same contents, at every value their checks admit (R6 to R8, R10, R26, R165, R171). The model's own
choices here: log entries 21, 22. -/
def Obligations.PayloadsAreReadAsTheyAreSent : Prop :=
  ((∀ (b : Byte) (rest : List Byte), valueOf (b :: rest) = b.toNat * 256 ^ rest.length + valueOf rest) ∧
   valueOf [] = 0) ∧
  (∀ (t : Tick) (p : List Byte),
     let field := fun offset width : Nat => valueOf ((p.drop offset).take width)
     let reads := fun (code length : Nat) (r : Instr) =>
       readRequest t code p = if p.length = length then .request r else .badLength
     let set := fun o : Nat =>
       ({ amplitude := field o 2, angle := field (o + 2) 2, frequency := field (o + 4) 3 } : ChannelSetting)
     let state := fun o : Nat => ({
       settings := { v1 := set o, v2 := set (o + 7), v3 := set (o + 14), vx := set (o + 21), i1 := set (o + 28)
                     i2 := set (o + 35), i3 := set (o + 42), ix := set (o + 49) }
       outputs := field (o + 56) 1, duration := field (o + 57) 4, endCondition := field (o + 61) 1
       inception := field (o + 62) 1, theta := field (o + 63) 2 } : RawState)
     let curve : RawCurve := {
       quantity := field 1 1, pickup := field 2 2
       breakpoints := (List.range (field 4 1)).map fun k => (field (5 + 6 * k) 2, field (7 + 6 * k) 4) }
     let point : RawPoint := {
       tag := field 1 4, kind := field 5 1, faultPosition := field 6 1, startMode := field 7 1, day := field 8 2
       second := field 10 3, offset := field 13 3, monitored := field 16 2, combine := field 18 1
       expectation := field 19 1, expectedTime := field 20 4, characteristic := field 24 1
       tolerancePercent := field 25 1, toleranceAbsolute := field 26 4, varied := field 30 1, lower := field 31 2
       upper := field 33 2, resolution := field 35 2, maximumShots := field 37 1, policy := field 38 1
       boundary := field 39 2, searchPercent := field 41 1, searchAbsolute := field 42 2
       states := (List.range (field 44 1)).map fun k => field (45 + k) 1 }
     let count := field 0 1
     (reads 0x10 (45 + field 44 1) (.pointNew count point) ∧ reads 0x11 (45 + field 44 1) (.pointSet count point) ∧
       reads 0x12 1 (.pointGet count) ∧ reads 0x13 4 (.pointFind (field 0 4)) ∧ reads 0x14 0 .pointList ∧
       reads 0x15 1 (.pointDrop count) ∧ reads 0x16 66 (.stateNew count (state 1)) ∧
       reads 0x18 66 (.stateSet count (state 1)) ∧ reads 0x19 1 (.stateGet count) ∧ reads 0x1A 1 (.stateDrop count) ∧
       reads 0x1B (5 + 6 * field 4 1) (.curveNew count curve) ∧
       reads 0x1C (5 + 6 * field 4 1) (.curveSet count curve) ∧ reads 0x1D 1 (.curveGet count) ∧
       reads 0x1E 1 (.curveDrop count) ∧ reads 0x1F 1 (.resultGet count) ∧ reads 0x20 1 (.resultDrop count)) ∧
     (p = [] → readRequest t 0x17 p = .badLength) ∧
     (p ≠ [] → count = 0 ∨ 3 < count → readRequest t 0x17 p = .request (.stateLoad count [])) ∧
     (1 ≤ count → count ≤ 3 → reads 0x17 (1 + 66 * count)
       (.stateLoad count ((List.range count).map fun k => (field (1 + 66 * k) 1, state (2 + 66 * k))))) ∧
     (reads 0x30 1 (.queueAdd count) ∧ reads 0x31 1 (.queueFirst count) ∧ reads 0x32 1 (.queueRemove count) ∧
       reads 0x33 0 .queueGet ∧ reads 0x34 5 (.runSetup (field 0 2) (field 2 2) (field 4 1)) ∧
       reads 0x35 0 .runHold ∧ reads 0x36 0 .runRelease ∧ reads 0x37 0 (.shotAbort t) ∧ reads 0x38 0 (.runReset t)) ∧
     (reads 0x40 9 (.chanSet count { range := field 1 2, offThreshold := field 3 2, onThreshold := field 5 2
                                     qualifying := field 7 1, overloadLimit := field 8 1 }) ∧
       reads 0x41 1 (.chanGet count) ∧ reads 0x42 1 (.chanUnmute count) ∧ reads 0x43 1 (.chanService count) ∧
       reads 0x44 8 (.inputSet count { mode := field 1 1, onThreshold := field 2 2, offThreshold := field 4 2
                                       samples := field 6 1, polarity := field 7 1 }) ∧
       reads 0x45 1 (.inputGet count) ∧ reads 0x46 1 (.outputIdleSet count) ∧
       reads 0x50 5 (.timeSet (field 0 2) (field 2 1) (field 3 2)) ∧ reads 0x51 0 .timeGet ∧
       reads 0x60 1 (.levelStep count) ∧ reads 0x61 0 .deviceInfo) ∧
     ∀ code : Nat, (code < 0x10 ∨ 0x20 < code ∧ code < 0x30 ∨ 0x38 < code ∧ code < 0x40 ∨ 0x46 < code ∧ code < 0x50 ∨
         0x51 < code ∧ code < 0x60 ∨ 0x61 < code) → readRequest t code p = .unknownCommand) ∧
  (∀ (raw : RawState) (c : StateContent), checkState raw = some c →
     c.payload.length = 65 ∧ checkState (stateAt c.payload 0) = some c) ∧
  (∀ (raw : RawCurve) (c : CurveContent), checkCurve raw = some c →
     c.payload.length = 4 + 6 * c.breakpoints.length ∧
     checkCurve (curveAt c.payload 0 c.breakpoints.length) = some c) ∧
  (∀ (states : Table StateRecord) (curves : Table Characteristic) (raw : RawPoint) (c : PointContent),
     states.wf 192 = true → curves.wf 16 = true → checkPoint states curves raw = some c →
     c.payload.length = 44 + c.states.length ∧
     checkPoint states curves (pointAt c.payload 0 c.states.length) = some c)

/-- The result record in the layout of R173: 34 bytes and 9 for each operated input; each field at its offset and 0
where absent, the verdict and the reason by their codes, the flags and the presence bits one by one, and each entry's
input number, operate time and release time (R123, R125, R171, R173). Times that do not fit their four bytes are not
spoken of (log entry 31). -/
def Obligations.ResultRecordLayout : Prop :=
  ∀ r : Result, r.runCount < 256 → r.skew.getD 0 < 256 → r.measured.getD 0 < 2 ^ 32 →
    (∀ e, r.expected = some e → e.time < 2 ^ 32 ∧ e.low < 2 ^ 32 ∧ e.high < 2 ^ 32) →
    r.multiple.getD 0 < 65536 → r.revision.getD 0 < 65536 →
    (∀ f, r.search = some f → f.lower < 65536 ∧ f.upper < 65536 ∧ f.boundary.getD 0 < 65536 ∧ f.shotsUsed < 256) →
    r.operated.length ≤ 10 →
    let p := r.payload
    let boundary := r.search.bind fun f => f.boundary
    (p.length = 34 + 9 * r.operated.length ∧
      [Verdict.pass, .failEarly, .failLate, .failNoTrip, .failUnwanted, .inconclusive, .aborted, .recorded, .failHigh,
        .failLow, .noBracket, .notConverged][fieldAt p 0 1]? = some r.verdict ∧
      [none, some AbortReason.command, some .runReset, some .amplifier, some .notReset, some .channelUnfit,
        some .timeLost, some .lateStart, some .tooFar, some .preempted, some .removed][fieldAt p 1 1]? =
        some r.reason ∧
      fieldAt p 2 1 = bit r.flags.prefault + 2 * bit r.flags.clamped + 4 * bit r.flags.compliance +
        8 * bit r.flags.shortWindow + 16 * bit r.flags.timeHoldover + 32 * bit r.flags.stale +
        64 * bit r.flags.unread ∧
      fieldAt p 3 1 = bit r.reason.isSome + 2 * bit r.measured.isSome + 4 * bit r.expected.isSome +
        8 * bit r.multiple.isSome + 16 * bit r.revision.isSome + 32 * bit r.skew.isSome +
        64 * bit boundary.isSome + 128 * bit r.search.isSome) ∧
    (fieldAt p 4 1 = r.runCount ∧ fieldAt p 5 1 = r.skew.getD 0 ∧ fieldAt p 6 4 = r.measured.getD 0 ∧
      fieldAt p 10 4 = (r.expected.map fun e => e.time).getD 0 ∧
      fieldAt p 14 4 = (r.expected.map fun e => e.low).getD 0 ∧
      fieldAt p 18 4 = (r.expected.map fun e => e.high).getD 0 ∧
      fieldAt p 22 2 = r.multiple.getD 0 ∧ fieldAt p 24 2 = r.revision.getD 0 ∧
      fieldAt p 26 2 = (r.search.map fun f => f.lower).getD 0 ∧
      fieldAt p 28 2 = (r.search.map fun f => f.upper).getD 0 ∧ fieldAt p 30 2 = boundary.getD 0 ∧
      fieldAt p 32 1 = (r.search.map fun f => f.shotsUsed).getD 0) ∧
    fieldAt p 33 1 = r.operated.length ∧
    ∀ (j : Nat) (e : OperatedEntry), r.operated[j]? = some e →
      fieldAt p (34 + 9 * j) 1 = e.input.number + 128 * bit e.release.isSome ∧
      (e.operate < 2 ^ 32 → fieldAt p (35 + 9 * j) 4 = e.operate) ∧
      (e.release.getD 0 < 2 ^ 32 → fieldAt p (39 + 9 * j) 4 = e.release.getD 0)

/-! ## The Plan Store -/

/-- POINT_FIND returns the handle of the present test point that holds a tag, one at most; it refuses tag 0 with
BAD_VALUE and a tag that none holds with ABSENT; it changes nothing, at every level; and a tag freed by POINT_DROP
or moved away by POINT_SET is ABSENT from then on (R22). The model's own choices here: log entry 3. -/
def Obligations.PointFindAnswersTheHolder : Prop :=
  ∀ s : State, TablesInv s →
    RefusedWith (.pointFind 0) s 0x22 ∧
    (∀ tag, tag ≠ 0 → (∀ h p, s.points.at? h = some p → p.content.tag ≠ tag) → RefusedWith (.pointFind tag) s 0x21) ∧
    (∀ h p, s.points.at? h = some p →
      exec (.pointFind p.content.tag) s = .next { s with port := s.port.answered 0 [BitVec.ofNat 8 h] } ∧
      (∀ k q, s.points.at? k = some q → q.content.tag = p.content.tag → k = h) ∧
      (∀ u, exec (.pointDrop h) s = .next u → u.points.at? h = none → RefusedWith (.pointFind p.content.tag) u 0x21) ∧
      (∀ raw u q, exec (.pointSet h raw) s = .next u → u.points.at? h = some q → q.content.tag ≠ p.content.tag →
        RefusedWith (.pointFind p.content.tag) u 0x21))

/-- The requests that look up records and settings answer OK with the values in force, each field at its place, and
change nothing else (R21, R23, R46, R84, R112, R171, R172). The model's own choices here: log entries 3, 22, 34. -/
def Obligations.LookupsAnswerAndChangeNothing : Prop :=
  ∀ s : State,
    let answer := fun (c : Instr) (payload : List Byte) => exec c s = .next { s with port := s.port.answered 0 payload }
    (∀ h p raw, 1 ≤ h → h ≤ 64 → s.points.at? h = some p → p.editLevel < 256 → s.states.wf 192 = true →
      s.curves.wf 16 = true → checkPoint s.states s.curves raw = some p.content →
      (∀ c, p.context = some c → c.lower < 65536 ∧ c.upper < 65536 ∧ c.shotsUsed < 256) →
      ∃ payload, answer (.pointGet h) payload ∧ p.LaidOut payload) ∧
    (∀ h r, 1 ≤ h → h ≤ 192 → s.states.at? h = some r → answer (.stateGet h)
      (bytesOf 1 r.editLevel ++ r.content.payload ++ bytesOf 2 r.refCount)) ∧
    (∀ h k, 1 ≤ h → h ≤ 16 → s.curves.at? h = some k → answer (.curveGet h)
      (bytesOf 1 k.editLevel ++ k.content.payload ++ bytesOf 2 k.revision ++ bytesOf 1 k.refCount)) ∧
    answer .pointList (BitVec.ofNat 8 s.points.length :: s.points.flatMap fun e => [BitVec.ofNat 8 e.1,
      BitVec.ofNat 8 (e.2.status.code + (if e.2.result.isSome then 4 else 0) +
        (if (e.2.result.map fun r => r.flags.unread) = some true then 8 else 0))]) ∧
    answer .queueGet (BitVec.ofNat 8 s.run.queue.length ::
      (s.run.queue.map fun e => BitVec.ofNat 8 (e.handle + if e.marked then 128 else 0)) ++
      [BitVec.ofNat 8 (s.run.active.getD 0), BitVec.ofNat 8 s.run.state.code, BitVec.ofNat 8 s.run.hold.toNat] ++
      bytesOf 2 s.run.setup.restInterval ++ bytesOf 2 s.run.setup.resetWait ++
      [BitVec.ofNat 8 s.run.setup.policy.code]) ∧
    (∀ c : Chan, (s.channels.get c).inv c s.run.state.isPlaying →
      ∃ payload, answer (.chanGet c.number) payload ∧ (s.channels.get c).LaidOut payload) ∧
    (∀ n : Inp, (s.inputs.get n).inv s.run.state.isPlaying → (s.inputs.get n).qualification.run < 256 →
      ∃ payload, answer (.inputGet n.number) payload ∧ (s.inputs.get n).LaidOut s.idleOutputs payload) ∧
    answer .deviceInfo [0x62, 0x08, 0x01]

/-- POINT_NEW, STATE_NEW and CURVE_NEW store a checked content at the lowest absent handle with the larger of the
two levels and the creation values of the other fields; POINT_NEW adds its references; every other record stands
(R1, R5, R12, R14). The model's own choices here: log entry 3. -/
def Obligations.CreatesTakeTheLowestAbsentHandle : Prop :=
  (∀ (s : State) (edit : Nat) (raw : RawPoint) (c : PointContent) (h : Nat),
     edit ≤ 2 → checkPoint s.states s.curves raw = some c → (∀ e ∈ s.points, e.2.content.tag ≠ c.tag) →
     1 ≤ h → h ≤ 64 → s.points.at? h = none → (∀ k, 1 ≤ k → k < h → (s.points.at? k).isSome) →
     ∃ u, exec (.pointNew edit raw) s = .next u ∧
       u = { s with points := u.points, states := u.states, curves := u.curves
                    port := s.port.answered 0 [BitVec.ofNat 8 h] } ∧
       u.points.at? h = some { editLevel := max edit s.level, content := c, status := .idle, context := none
                               result := none } ∧
       (∀ k, k ≠ h → u.points.at? k = s.points.at? k) ∧
       (∀ k, u.states.at? k = (s.states.at? k).map fun r => { r with refCount := r.refCount + c.states.count k }) ∧
       (∀ k, u.curves.at? k = (s.curves.at? k).map fun r =>
         { r with refCount := r.refCount + if c.curve? = some k then 1 else 0 })) ∧
  (∀ (s : State) (edit h : Nat), edit ≤ 2 → 1 ≤ h →
     (∀ raw c, checkState raw = some c → h ≤ 192 → s.states.at? h = none →
       (∀ k, 1 ≤ k → k < h → (s.states.at? k).isSome) →
       ∃ u, exec (.stateNew edit raw) s = .next u ∧
         u = { s with states := u.states, port := s.port.answered 0 [BitVec.ofNat 8 h] } ∧
         u.states.at? h = some { editLevel := max edit s.level, content := c, refCount := 0 } ∧
         ∀ k, k ≠ h → u.states.at? k = s.states.at? k) ∧
     (∀ raw c, checkCurve raw = some c → h ≤ 16 → s.curves.at? h = none →
       (∀ k, 1 ≤ k → k < h → (s.curves.at? k).isSome) →
       ∃ u, exec (.curveNew edit raw) s = .next u ∧
         u = { s with curves := u.curves, port := s.port.answered 0 [BitVec.ofNat 8 h] } ∧
         u.curves.at? h = some { editLevel := max edit s.level, content := c, revision := 0, refCount := 0 } ∧
         ∀ k, k ≠ h → u.curves.at? k = s.curves.at? k))

/-- POINT_SET, STATE_SET and CURVE_SET replace the content of a record and keep its edit level; POINT_SET moves the
references, STATE_SET and CURVE_SET keep the reference count, CURVE_SET counts the revision on from 65,535 to 0; the
results marked STALE are exactly those of the test points concerned (R11, R14, R15, R16, R17, R24). The model's own
choices here: log entry 3. -/
def Obligations.SetsReplaceTheContent : Prop :=
  (∀ (s : State) (h : Nat) (raw : RawPoint) (p : TestPoint) (c : PointContent),
     1 ≤ h → h ≤ 64 → s.points.at? h = some p → s.level ≤ p.editLevel → p.status = .idle →
     checkPoint s.states s.curves raw = some c → (∀ e ∈ s.points, e.1 ≠ h → e.2.content.tag ≠ c.tag) →
     ∃ u, exec (.pointSet h raw) s = .next u ∧
       u = { s with points := u.points, states := u.states, curves := u.curves, port := s.port.answered 0 [] } ∧
       u.points.at? h = some { p with
         content := c
         result := p.result.map fun r => { r with flags := { r.flags with stale := true } } } ∧
       (∀ k, k ≠ h → u.points.at? k = s.points.at? k) ∧
       (∀ k, u.states.at? k = (s.states.at? k).map fun r =>
         { r with refCount := r.refCount - p.content.states.count k + c.states.count k }) ∧
       (∀ k, u.curves.at? k = (s.curves.at? k).map fun r =>
         { r with refCount := r.refCount - (if p.content.curve? = some k then 1 else 0) +
             if c.curve? = some k then 1 else 0 })) ∧
  (∀ (s : State) (h : Nat),
     let stale := fun p : TestPoint => { p with
       result := p.result.map fun r => { r with flags := { r.flags with stale := true } } }
     (∀ raw r c, 1 ≤ h → h ≤ 192 → s.states.at? h = some r → s.level ≤ r.editLevel →
       (∀ e ∈ s.points, h ∈ e.2.content.states → e.2.status = .idle ∨ e.2.status = .queued) →
       checkState raw = some c →
       ∃ u, exec (.stateSet h raw) s = .next u ∧
         u = { s with states := u.states, points := u.points, port := s.port.answered 0 [] } ∧
         u.states.at? h = some { r with content := c } ∧ (∀ k, k ≠ h → u.states.at? k = s.states.at? k) ∧
         (∀ k, u.points.at? k = (s.points.at? k).map fun p => if h ∈ p.content.states then stale p else p)) ∧
     (∀ raw r c, 1 ≤ h → h ≤ 16 → s.curves.at? h = some r → s.level ≤ r.editLevel →
       (∀ e ∈ s.points, e.2.content.curve? = some h → e.2.status ≠ .active) →
       checkCurve raw = some c →
       ∃ u, exec (.curveSet h raw) s = .next u ∧
         u = { s with curves := u.curves, points := u.points, port := s.port.answered 0 [] } ∧
         u.curves.at? h = some { r with content := c, revision := (r.revision + 1) % 65536 } ∧
         (∀ k, k ≠ h → u.curves.at? k = s.curves.at? k) ∧
         (∀ k, u.points.at? k = (s.points.at? k).map fun p => if p.content.curve? = some h then stale p else p)))

/-- POINT_DROP makes an IDLE test point absent with its result and removes its references; STATE_DROP and CURVE_DROP
make an unreferenced record absent and change nothing else (R14, R19, R20). The model's own choices here: log entry
3. -/
def Obligations.DropsRetireRecords : Prop :=
  (∀ (s : State) (h : Nat) (p : TestPoint),
     1 ≤ h → h ≤ 64 → s.points.at? h = some p → s.level ≤ p.editLevel → p.status = .idle →
     ∃ u, exec (.pointDrop h) s = .next u ∧
       u = { s with points := u.points, states := u.states, curves := u.curves, port := s.port.answered 0 [] } ∧
       u.points.at? h = none ∧ (∀ k, k ≠ h → u.points.at? k = s.points.at? k) ∧
       (∀ k, u.states.at? k = (s.states.at? k).map fun r =>
         { r with refCount := r.refCount - p.content.states.count k }) ∧
       (∀ k, u.curves.at? k = (s.curves.at? k).map fun r =>
         { r with refCount := r.refCount - if p.content.curve? = some k then 1 else 0 })) ∧
  (∀ (s : State) (h : Nat), 1 ≤ h →
     (∀ r, h ≤ 192 → s.states.at? h = some r → s.level ≤ r.editLevel → r.refCount = 0 →
       ∃ u, exec (.stateDrop h) s = .next u ∧
         u = { s with states := u.states, port := s.port.answered 0 [] } ∧
         u.states.at? h = none ∧ ∀ k, k ≠ h → u.states.at? k = s.states.at? k) ∧
     (∀ r, h ≤ 16 → s.curves.at? h = some r → s.level ≤ r.editLevel → r.refCount = 0 →
       ∃ u, exec (.curveDrop h) s = .next u ∧
         u = { s with curves := u.curves, port := s.port.answered 0 [] } ∧
         u.curves.at? h = none ∧ ∀ k, k ≠ h → u.curves.at? k = s.curves.at? k))

/-- STATE_LOAD creates its entries in order, each at the lowest absent handle, while there is room, answering OK with
the handles. At the second or third entry that fails, for its edit level, its content or a full pool, it stops with
PARTIAL: the entries before it are created, and the response gives their handles, the count of those not created and
the failing entry's code (R5, R12, R13). The model's own choices here: log entry 3. -/
def Obligations.StateLoadCreatesInOrder : Prop :=
  ∀ (s : State), s.states.wf 192 = true →
    let good := fun e : Nat × RawState => e.1 ≤ 2 ∧ (checkState e.2).isSome
    let created := fun (entries : List (Nat × RawState)) (handles : List Nat) (u : State) =>
      handles.length = entries.length ∧ handles.Pairwise (· < ·) ∧
      (∀ (i : Nat) (e : Nat × RawState), entries[i]? = some e → ∃ (h : Nat) (c : StateContent),
        handles[i]? = some h ∧ 1 ≤ h ∧ h ≤ 192 ∧ s.states.at? h = none ∧
        (∀ k, 1 ≤ k → k < h → (s.states.at? k).isSome ∨ k ∈ handles) ∧ checkState e.2 = some c ∧
        u.states.at? h = some { editLevel := max e.1 s.level, content := c, refCount := 0 }) ∧
      ∀ k, k ∉ handles → u.states.at? k = s.states.at? k
    (∀ entries : List (Nat × RawState), 1 ≤ entries.length → entries.length ≤ 3 →
      s.states.length + entries.length ≤ 192 → (∀ e ∈ entries, good e) →
      ∃ (u : State) (handles : List Nat), exec (.stateLoad entries.length entries) s = .next u ∧
        u = { s with states := u.states, port := s.port.answered 0 (handles.map (BitVec.ofNat 8)) } ∧
        created entries handles u) ∧
    (∀ (before after : List (Nat × RawState)) (failing : Nat × RawState) (code : Nat),
      1 ≤ before.length → before.length + 1 + after.length ≤ 3 → s.states.length + before.length ≤ 192 →
      (∀ e ∈ before, good e) →
      ((2 < failing.1 ∨ checkState failing.2 = none) ∧ code = 0x22 ∨
        good failing ∧ s.states.length + before.length = 192 ∧ code = 0x27) →
      ∃ (u : State) (handles : List Nat),
        exec (.stateLoad (before.length + 1 + after.length) (before ++ failing :: after)) s = .next u ∧
        (let stopped := [BitVec.ofNat 8 (after.length + 1), BitVec.ofNat 8 code]
         u = { s with states := u.states, port := s.port.answered 1 (handles.map (BitVec.ofNat 8) ++ stopped) }) ∧
        created before handles u)

/-- RESULT_GET returns the result as it stands and clears UNREAD alone, and the last one read ends the RESULT cause;
RESULT_DROP makes the result absent (R127, R128, R129). The model's own choices here: log entry 3. -/
def Obligations.ResultGetAndResultDrop : Prop :=
  ∀ (s : State) (h : Nat) (p : TestPoint) (r : Result),
    1 ≤ h → h ≤ 64 → s.points.at? h = some p → p.result = some r →
    (∃ u, exec (.resultGet h) s = .next u ∧
      u = { s with points := u.points, port := s.port.answered 0 r.payload } ∧
      u.points.at? h = some { p with result := some { r with flags := { r.flags with unread := false } } } ∧
      (∀ k, k ≠ h → u.points.at? k = s.points.at? k) ∧
      ((∀ e ∈ s.points, e.1 ≠ h → ∀ q, e.2.result = some q → q.flags.unread = false) → u.resultCause = false)) ∧
    (s.level ≤ p.editLevel →
      ∃ u, exec (.resultDrop h) s = .next u ∧
        u = { s with points := u.points, port := s.port.answered 0 [] } ∧
        u.points.at? h = some { p with result := none } ∧ ∀ k, k ≠ h → u.points.at? k = s.points.at? k)

/-- Requests on records check the handle, presence, authority, status and references in that order, the first
failure deciding the code (R2, R4, R15 to R20, R42 to R44, R128, R129). The model's own choices here: log entry 3.
-/
def Obligations.RecordRequestsAreCheckedInOrder : Prop :=
  ∀ (s : State) (h : Nat) (a : RawPoint) (b : RawState) (c : RawCurve),
    let points := [Instr.pointSet h a, .pointGet h, .pointDrop h, .resultGet h, .resultDrop h, .queueAdd h,
      .queueFirst h, .queueRemove h]
    let states := [Instr.stateSet h b, .stateGet h, .stateDrop h]
    let curves := [Instr.curveSet h c, .curveGet h, .curveDrop h]
    ((h = 0 ∨ 64 < h) → ∀ i ∈ points, RefusedWith i s 0x20) ∧
    ((h = 0 ∨ 192 < h) → ∀ i ∈ states, RefusedWith i s 0x20) ∧
    ((h = 0 ∨ 16 < h) → ∀ i ∈ curves, RefusedWith i s 0x20) ∧
    (1 ≤ h →
      (h ≤ 64 → s.points.at? h = none → ∀ i ∈ points, RefusedWith i s 0x21) ∧
      (h ≤ 192 → s.states.at? h = none → ∀ i ∈ states, RefusedWith i s 0x21) ∧
      (h ≤ 16 → s.curves.at? h = none → ∀ i ∈ curves, RefusedWith i s 0x21) ∧
      (∀ p, h ≤ 64 → s.points.at? h = some p →
        (p.editLevel < s.level → ∀ i ∈ [Instr.pointSet h a, .pointDrop h, .resultDrop h], RefusedWith i s 0x26) ∧
        (s.level ≤ p.editLevel → p.status ≠ .idle → ∀ i ∈ [Instr.pointSet h a, .pointDrop h], RefusedWith i s 0x25) ∧
        (p.status ≠ .idle → ∀ i ∈ [Instr.queueAdd h, .queueFirst h], RefusedWith i s 0x25) ∧
        (p.status = .idle → 32 ≤ s.run.queue.length → ∀ i ∈ [Instr.queueAdd h, .queueFirst h], RefusedWith i s 0x27) ∧
        (p.status = .idle ∨ p.status = .active → RefusedWith (.queueRemove h) s 0x25) ∧
        (p.result = none → RefusedWith (.resultGet h) s 0x21 ∧
          (s.level ≤ p.editLevel → RefusedWith (.resultDrop h) s 0x21))) ∧
      (∀ r, h ≤ 192 → s.states.at? h = some r →
        (r.editLevel < s.level → ∀ i ∈ [Instr.stateSet h b, .stateDrop h], RefusedWith i s 0x26) ∧
        (s.level ≤ r.editLevel → 0 < r.refCount → RefusedWith (.stateDrop h) s 0x24) ∧
        (s.level ≤ r.editLevel → ∀ e ∈ s.points, h ∈ e.2.content.states →
          (e.2.status = .active ∨ e.2.status = .suspended) → RefusedWith (.stateSet h b) s 0x25)) ∧
      (∀ r, h ≤ 16 → s.curves.at? h = some r →
        (r.editLevel < s.level → ∀ i ∈ [Instr.curveSet h c, .curveDrop h], RefusedWith i s 0x26) ∧
        (s.level ≤ r.editLevel → 0 < r.refCount → RefusedWith (.curveDrop h) s 0x24) ∧
        (s.level ≤ r.editLevel → ∀ e ∈ s.points, e.2.content.curve? = some h → e.2.status = .active →
          RefusedWith (.curveSet h c) s 0x25)))

/-- Creates and sets refuse a content that fails its checks with BAD_VALUE, then a tag another present test point
holds with DUPLICATE_TAG, then a full table with FULL, and change nothing (R2, R5, R9, R12, R13). The model's own
choices here: log entry 3. -/
def Obligations.ContentIsCheckedBeforeTagAndRoom : Prop :=
  ∀ (s : State) (edit : Nat) (a : RawPoint) (b : RawState) (c : RawCurve),
    let held := fun (tag except : Nat) => ∃ e ∈ s.points, e.1 ≠ except ∧ e.2.content.tag = tag
    ((2 < edit ∨ checkPoint s.states s.curves a = none) → RefusedWith (.pointNew edit a) s 0x22) ∧
    ((2 < edit ∨ checkState b = none) → RefusedWith (.stateNew edit b) s 0x22) ∧
    ((2 < edit ∨ checkCurve c = none) → RefusedWith (.curveNew edit c) s 0x22) ∧
    (∀ x, edit ≤ 2 → checkPoint s.states s.curves a = some x →
      (held x.tag 0 → RefusedWith (.pointNew edit a) s 0x23) ∧
      (¬ held x.tag 0 → (∀ k, 1 ≤ k → k ≤ 64 → (s.points.at? k).isSome) → RefusedWith (.pointNew edit a) s 0x27)) ∧
    (edit ≤ 2 → (checkState b).isSome → (∀ k, 1 ≤ k → k ≤ 192 → (s.states.at? k).isSome) →
      RefusedWith (.stateNew edit b) s 0x27 ∧ RefusedWith (.stateLoad 1 [(edit, b)]) s 0x27) ∧
    (edit ≤ 2 → (checkCurve c).isSome → (∀ k, 1 ≤ k → k ≤ 16 → (s.curves.at? k).isSome) →
      RefusedWith (.curveNew edit c) s 0x27) ∧
    (∀ n rest, (n = 0 ∨ 3 < n → RefusedWith (.stateLoad n rest) s 0x22) ∧
      (1 ≤ n → n ≤ 3 → (2 < edit ∨ checkState b = none) → RefusedWith (.stateLoad n ((edit, b) :: rest)) s 0x22)) ∧
    (∀ h p, 1 ≤ h → h ≤ 64 → s.points.at? h = some p → s.level ≤ p.editLevel → p.status = .idle →
      (checkPoint s.states s.curves a = none → RefusedWith (.pointSet h a) s 0x22) ∧
      (∀ x, checkPoint s.states s.curves a = some x → held x.tag h → RefusedWith (.pointSet h a) s 0x23)) ∧
    (∀ h r, 1 ≤ h → h ≤ 192 → s.states.at? h = some r → s.level ≤ r.editLevel →
      (∀ e ∈ s.points, h ∈ e.2.content.states → e.2.status = .idle ∨ e.2.status = .queued) →
      checkState b = none → RefusedWith (.stateSet h b) s 0x22) ∧
    (∀ h r, 1 ≤ h → h ≤ 16 → s.curves.at? h = some r → s.level ≤ r.editLevel →
      (∀ e ∈ s.points, e.2.content.curve? = some h → e.2.status ≠ .active) →
      checkCurve c = none → RefusedWith (.curveSet h c) s 0x22)

/-- A state, curve or point content passes its checks exactly in the ranges of R6, R7, R8, R10 and R26, and becomes
that content, field by field; a point content is checked against the states and characteristics present, and keeps the
fields of its kind, of its start mode and of its expectation alone. -/
def Obligations.ContentChecksAreExact : Prop :=
  ((∀ raw : RawState, (checkState raw).isSome ↔
     (∀ c : Chan, (raw.settings.get c).amplitude ≤ (if c.number ≤ 4 then 30000 else 32000) ∧
       (raw.settings.get c).angle ≤ 35999 ∧ 5000 ≤ (raw.settings.get c).frequency ∧
       (raw.settings.get c).frequency ≤ 500000) ∧
     raw.outputs ≤ 15 ∧ 100 ≤ raw.duration ∧ raw.duration ≤ 600000000 ∧ raw.endCondition ≤ 1 ∧
     (raw.inception = 0 ∨ raw.inception = 1 ∧ raw.theta ≤ 35999)) ∧
   (∀ raw c, checkState raw = some c →
     c.settings = raw.settings ∧ c.outputs.toNat = raw.outputs ∧ c.duration = raw.duration ∧
     c.endCondition = (if raw.endCondition = 0 then .time else .input) ∧
     c.inception = (if raw.inception = 0 then .continuous else .angle raw.theta)) ∧
   (∀ raw : RawCurve, (checkCurve raw).isSome ↔
     raw.quantity ∈ [0, 5, 6, 7, 8] ∧ 10 ≤ raw.pickup ∧ raw.pickup ≤ 32000 ∧
     2 ≤ raw.breakpoints.length ∧ raw.breakpoints.length ≤ 24 ∧
     (∀ b ∈ raw.breakpoints, 1000 ≤ b.1 ∧ b.1 ≤ 65535 ∧ 1000 ≤ b.2 ∧ b.2 ≤ 600000000) ∧
     raw.breakpoints.Pairwise fun x y => x.1 < y.1 ∧ y.2 ≤ x.2) ∧
   (∀ raw c, checkCurve raw = some c →
     c.quantity.code = raw.quantity ∧ c.pickup = raw.pickup ∧ c.breakpoints = raw.breakpoints)) ∧
  (∀ (states : Table StateRecord) (curves : Table Characteristic) (r : RawPoint),
     (checkPoint states curves r).isSome ↔
       r.tag ≠ 0 ∧ r.tag < 2 ^ 32 ∧ 1 ≤ r.states.length ∧ r.states.length ≤ 8 ∧
       (∀ h ∈ r.states, (states.at? h).isSome) ∧ 1 ≤ r.faultPosition ∧ r.faultPosition ≤ r.states.length ∧
       r.monitored ≤ 1023 ∧ r.combine ≤ 1 ∧
       (r.startMode = 0 ∨ r.startMode = 1 ∧ r.day ≤ 65535 ∧ r.second ≤ 86399 ∧ r.offset ≤ 999999) ∧
       (r.kind = 0 ∧ r.tolerancePercent ≤ 250 ∧ r.toleranceAbsolute ≤ 1000000 ∧
           (r.expectation = 0 ∨ r.monitored ≠ 0 ∧
             (r.expectation = 1 ∧ 1000 ≤ r.expectedTime ∧ r.expectedTime ≤ 600000000 ∨
               r.expectation = 2 ∧ (curves.at? r.characteristic).isSome ∨ r.expectation = 3)) ∨
         r.kind = 1 ∧ r.startMode = 0 ∧ r.monitored ≠ 0 ∧ r.lower < r.upper ∧ 1 ≤ r.resolution ∧
           3 ≤ r.maximumShots ∧ r.maximumShots ≤ 40 ∧ r.policy ≤ 1 ∧ r.searchPercent ≤ 250 ∧
           ∃ top, (1 ≤ r.varied ∧ r.varied ≤ 15 ∧ top = 30000 ∨
               16 ≤ r.varied ∧ r.varied ≤ 255 ∧ r.varied % 16 = 0 ∧ top = 32000) ∧
             r.upper ≤ top ∧ r.resolution ≤ top ∧ r.boundary ≤ top ∧ r.searchAbsolute ≤ top)) ∧
  (∀ (states : Table StateRecord) (curves : Table Characteristic) (r : RawPoint) (c : PointContent),
     checkPoint states curves r = some c →
     c.tag = r.tag ∧ c.states = r.states ∧ c.faultPosition = r.faultPosition ∧ c.monitored.toNat = r.monitored ∧
     c.combine = (if r.combine = 0 then .any else .all) ∧
     c.start = (if r.startMode = 0 then .immediate else .atTime r.day r.second r.offset) ∧
     (r.kind = 0 → c.kind = .shot
       (if r.expectation = 0 then .none else if r.expectation = 1 then .fixed r.expectedTime
        else if r.expectation = 2 then .curve r.characteristic else .noTrip) r.tolerancePercent r.toleranceAbsolute) ∧
     (r.kind = 1 → c.kind = .search {
       varied := BitVec.ofNat 8 r.varied, lower := r.lower, upper := r.upper, resolution := r.resolution
       maximumShots := r.maximumShots, policy := if r.policy = 0 then .suspend else .abort, boundary := r.boundary
       tolerancePercent := r.searchPercent, toleranceAbsolute := r.searchAbsolute }))

/-- The whole rule of the link authority level: 0 after device reset, kept through a run reset, never above 2,
refused with BAD_VALUE above 2 and with DENIED below the level in force, else accepted with nothing else changed and
in force for the requests after it; no command but DEVICE_RESET lowers it (R3). The model's own choices here: log
entry 3. -/
def Obligations.LevelStepsOneWay : Prop :=
  State.reset.level = 0 ∧
  (∀ s found u, exec (.deviceReset found) s = .next u → u.level = 0) ∧
  (∀ s t u, exec (.runReset t) s = .next u → u.level = s.level) ∧
  KeptByStep (fun s => s.level ≤ 2) ∧
  (∀ s level, 2 < level → RefusedWith (.levelStep level) s 0x22) ∧
  (∀ s level, level ≤ 2 → level < s.level → RefusedWith (.levelStep level) s 0x26) ∧
  (∀ s level, level ≤ 2 → s.level ≤ level →
    let u := { s with level := level, port := s.port.answered 0 [BitVec.ofNat 8 level] }
    exec (.levelStep level) s = .next u ∧
    (∀ h p raw, 1 ≤ h → h ≤ 64 → u.points.at? h = some p → p.editLevel < level →
      ∀ i ∈ [Instr.pointSet h raw, .pointDrop h, .resultDrop h], RefusedWith i u 0x26) ∧
    (∀ h r raw, 1 ≤ h → h ≤ 192 → u.states.at? h = some r → r.editLevel < level →
      ∀ i ∈ [Instr.stateSet h raw, .stateDrop h], RefusedWith i u 0x26) ∧
    (∀ h r raw, 1 ≤ h → h ≤ 16 → u.curves.at? h = some r → r.editLevel < level →
      ∀ i ∈ [Instr.curveSet h raw, .curveDrop h], RefusedWith i u 0x26) ∧
    (∀ c : Chan, 1 < level → RefusedWith (.chanService c.number) u 0x26)) ∧
  (∀ c s u, (∀ found, c ≠ .deviceReset found) → exec c s = .next u → s.level ≤ u.level) ∧
  (∀ c s u, (∀ found, c ≠ .deviceReset found) → (∀ l, c ≠ .levelStep l) → exec c s = .next u → u.level = s.level)

/-! ## The run queue and the Run Controller's requests -/

/-- QUEUE_ADD places an unmarked entry at the tail and QUEUE_FIRST a marked one after the last marked entry; the
test point becomes QUEUED and the response gives the position. In IDLE with the hold flag clear the head is then
taken, as RUN_RELEASE takes it. QUEUE_REMOVE takes an entry out: a QUEUED test point becomes IDLE with its result
kept, a SUSPENDED search receives an ABORTED result with reason REMOVED and its context (R41 to R44, R48, R139,
R145). The model's own choices here: log entry 3. -/
def Obligations.QueueRequestsMoveEntries : Prop :=
  (∀ (s : State) (h : Nat) (p : TestPoint), 1 ≤ h → h ≤ 64 → s.points.at? h = some p → p.status = .idle →
     s.run.queue.length < 32 →
     let placed := fun (queue : List QueueEntry) (position : Nat) (u : State) =>
       u = { s with points := u.points, run := { s.run with queue := queue }
                    port := s.port.answered 0 [BitVec.ofNat 8 position] } ∧
       u.points.at? h = some { p with status := .queued } ∧ ∀ k, k ≠ h → u.points.at? k = s.points.at? k
     ((s.run.hold = true ∨ s.run.state ≠ .idle) →
       (∃ u, exec (.queueAdd h) s = .next u ∧
         placed (s.run.queue ++ [{ handle := h, marked := false }]) (s.run.queue.length + 1) u) ∧
       (∀ ms us, s.run.queue = ms ++ us → (∀ e ∈ ms, e.marked = true) → (∀ e ∈ us, e.marked = false) →
         ∃ u, exec (.queueFirst h) s = .next u ∧
           placed (ms ++ { handle := h, marked := true } :: us) (ms.length + 1) u)) ∧
     (s.run.hold = false → s.run.state = .idle → ∀ i ∈ [Instr.queueAdd h, .queueFirst h],
       ∃ v w, exec i { s with run := { s.run with hold := true } } = .next v ∧ exec .runRelease v = .next w ∧
         exec i s = .next { w with port := v.port })) ∧
  (∀ (s : State) (h : Nat) (p : TestPoint), 1 ≤ h → h ≤ 64 → s.points.at? h = some p →
     let removed := fun u : State =>
       u = { s with points := u.points
                    run := { s.run with queue := s.run.queue.filter fun e => e.handle ≠ h }
                    port := s.port.answered 0 [] } ∧
       ∀ k, k ≠ h → u.points.at? k = s.points.at? k
     (p.status = .queued → ∃ u, exec (.queueRemove h) s = .next u ∧ removed u ∧
       u.points.at? h = some { p with status := .idle }) ∧
     (∀ k c, p.status = .suspended → p.content.kind = .search k → p.context = some c →
       ∃ u q r, exec (.queueRemove h) s = .next u ∧ removed u ∧ u.points.at? h = some q ∧ p.Posted q r ∧
         r.verdict = .aborted ∧ r.reason = some .removed ∧ r.operated = [] ∧ r.measured = none ∧
         r.search = some { lower := c.lower, upper := c.upper, boundary := none, shotsUsed := c.shotsUsed }))

/-- RUN_RELEASE in IDLE takes the head: out of the queue, ACTIVE, a QUEUED search with a new context and a SUSPENDED
one with the context it kept. PRECHECK aborts on a covered UNFIT channel, then on the schedule check, and else leads
to PLAYING or START_WAIT with the relay reset and to RESET_WAIT without (R48, R50 to R53, R109, R133, R143, R159).
The model's own choices here: log entries 3, 11. -/
def Obligations.ReleaseTakesTheHeadThroughPrecheck : Prop :=
  ∀ (s : State) (e : QueueEntry) (rest : List QueueEntry) (p : TestPoint),
    s.run.state = .idle → s.run.hold = true → s.run.queue = e :: rest → s.points.at? e.handle = some p →
    let v := { s with run := { s.run with hold := false, queue := rest } }
    let taken := { p with
      status := .active
      context := match p.content.kind with
        | .shot _ _ _ => none
        | .search k => if p.status = .suspended then p.context
          else some { phase := .bracketHigh, lower := k.lower, upper := k.upper, shotsUsed := 0 } }
    let stands := fun (state : RunState) (u : State) =>
      u = { s with points := u.points, run := { v.run with active := some e.handle, state := state }
                   port := s.port.answered 0 [] } ∧
      u.points.at? e.handle = some taken ∧ ∀ k, k ≠ e.handle → u.points.at? k = s.points.at? k
    let aborted := fun (reason : AbortReason) (u : State) =>
      AbortedAt v u e.handle p reason s.tick ∧ u.port = s.port.answered 0 []
    (¬ s.ChannelsFit p.content → ∃ u, exec .runRelease s = .next u ∧ aborted .channelUnfit u) ∧
    (s.ChannelsFit p.content →
      (∀ reason, s.ScheduleGives p.content.start (some reason) →
        ∃ u, exec .runRelease s = .next u ∧ aborted reason u) ∧
      (s.ScheduleGives p.content.start none →
        (s.RelayHasReset p.content → ∃ u, exec .runRelease s = .next u ∧ stands (s.goesOn p.content s.tick) u) ∧
        (¬ s.RelayHasReset p.content →
          ∃ u, exec .runRelease s = .next u ∧ stands (.resetWait s.tick s.run.setup.resetWait) u)))

/-- RUN_SETUP replaces the three values or is refused with BAD_VALUE; RUN_HOLD sets the hold flag; RUN_RELEASE
clears it, and changes nothing else where nothing was held back (R49, R60). The model's own choices here: log entry
3. -/
def Obligations.RunSetupHoldAndRelease : Prop :=
  ∀ s : State,
    (∀ rest wait policy, rest ≤ 60000 → wait ≤ 60000 → policy ≤ 1 →
      exec (.runSetup rest wait policy) s = .next { s with
        run := { s.run with setup := { restInterval := rest, resetWait := wait
                                       policy := if policy = 0 then .lockedOnly else .holdoverOk } }
        port := s.port.answered 0 [] }) ∧
    (∀ rest wait policy, (60000 < rest ∨ 60000 < wait ∨ 1 < policy) → RefusedWith (.runSetup rest wait policy) s 0x22) ∧
    exec .runHold s = .next { s with run := { s.run with hold := true }, port := s.port.answered 0 [] } ∧
    ((s.run.hold = false ∨ (s.run.state = .idle ∧ s.run.queue = []) ∨
        (s.run.state ≠ .idle ∧ ∀ since n fault, s.run.state ≠ .rest since n true fault)) →
      exec .runRelease s = .next { s with run := { s.run with hold := false }, port := s.port.answered 0 [] })

/-- The four aborts that lead to REST: SHOT_ABORT with COMMAND, a reported amplifier fault with AMPLIFIER, in the REST
of a search too where its shot end was taken first, a report that lost the time with TIME_LOST, and the expired
reset-wait limit with NOT_RESET, each at its generator instant and with every effect of an abort. With no test point
ACTIVE SHOT_ABORT is refused with BUSY (R52, R53, R61, R62, R63, R144). The model's own choices here: log entries 2, 3,
6, 18, 30, 36. -/
def Obligations.AbortsPostAndRest : Prop :=
  ∀ (s : State) (t : Tick), s.instantAhead t →
    let v := { s with gen := s.gen.arrive t }
    (s.activePoint = none →
      exec (.shotAbort t) s = .next { v with tick := t, port := s.port.answered 0x25 [] }) ∧
    (∀ h p i reason, s.activePoint = some (h, p) → s.AbortsAt t i reason → i ≠ .runReset t →
      ∃ u, exec i s = .next u ∧ AbortedAt v u h p reason t ∧
        u.port = (let port := { s.port with channel := u.port.channel }
          if i = .shotAbort t then port.answered 0 [] else port))

/-- What the ABORTED result of every abort at an instant holds, COMMAND, RUN_RESET, AMPLIFIER, TIME_LOST or NOT_RESET:
nothing of the shot before its start instant; then the start skew, the operated inputs and PREFAULT; and from inception
on the expectation values, the measured time and the doubts of delivery over the interval judged to the trip, or to the
abort without one. A search gives its context, no boundary, and its doubts to the abort (R38, R61, R116, R118 to R120,
R123 to R125, R139, R144). The model's own choices here: log entries 2, 3, 6, 14, 15, 18, 30. -/
def Obligations.AbortedResultsHoldWhatTheShotReached : Prop :=
  ∀ (s : State) (t : Tick) (i : Instr) (reason : AbortReason) (h : Nat) (p : TestPoint),
    s.instantAhead t → s.activePoint = some (h, p) → s.AbortsAt t i reason →
    let begun := ∃ play, s.run.state = .playing play ∧ ∀ due, play.stage ≠ .ready due
    let doubts := fun (r : Result) (ended : Tick) =>
      (r.flags.clamped = true ↔ ∃ x, s.shot.inception = some x ∧ s.ClampedIn x ended) ∧
      (r.flags.compliance = true ↔ ∃ x, s.shot.inception = some x ∧ s.shot.LostIn x ended)
    ∃ u q r, exec i s = .next u ∧ u.points.at? h = some q ∧ p.Posted q r ∧ r.verdict = .aborted ∧
      r.reason = some reason ∧ r.flags.shortWindow = false ∧
      (¬ begun → r.operated = [] ∧ r.flags.prefault = false ∧ r.flags.clamped = false ∧ r.flags.compliance = false) ∧
      (begun → (r.flags.prefault = true ↔ s.OperatedEarly p.content) ∧ s.OperatedListed r.operated) ∧
      (∀ x a b, p.content.kind = .shot x a b → r.search = none ∧
        (¬ begun → r.flags.timeHoldover = false ∧
          r.measured = none ∧ r.expected = none ∧ r.multiple = none ∧ r.revision = none ∧ r.skew = none) ∧
        (begun → doubts r (s.shot.tripInstant.getD t) ∧
          (r.flags.timeHoldover = true ↔ ∃ skew, s.shot.startConditions = some (.holdover, skew)) ∧
          r.skew = s.shot.startConditions.map Prod.snd ∧
          r.measured = s.shot.tripTime.map (fun time => min time 4294967295) ∧
          r.expected = s.shot.working.bind Working.expected? ∧ r.multiple = s.shot.working.bind Working.multiple? ∧
          r.revision = s.shot.working.bind Working.revision?)) ∧
      (∀ k c, p.content.kind = .search k → p.context = some c →
        (begun → doubts r t) ∧ r.flags.timeHoldover = false ∧
        r.measured = none ∧ r.expected = none ∧ r.multiple = none ∧ r.revision = none ∧ r.skew = none ∧
        r.search = some { lower := c.lower, upper := c.upper, boundary := none, shotsUsed := c.shotsUsed })

/-- RUN_RESET at its instant: the ACTIVE test point and every SUSPENDED search receive an ABORTED result with reason
RUN_RESET, every other test point is IDLE with its result kept, the queue is empty, the hold flag clear, the outputs
at rest, the pending configurations applied, and IDLE is entered with QUEUE_EMPTY raised (R64, R145). The model's
own choices here: log entries 3, 6, 36. -/
def Obligations.RunResetEndsEverything : Prop :=
  ∀ (s : State) (t : Tick), s.instantAhead t →
    let v := { s with gen := s.gen.arrive t }
    ∃ u, exec (.runReset t) s = .next u ∧
      u = { v with
        tick := t
        points := u.points
        run := { s.run with queue := [], state := .idle, active := none, hold := false }
        gen := { v.gen with synths := u.gen.synths, snapshot := none, outputs := s.idleOutputs }
        channels := u.channels
        inputs := u.inputs
        shot := u.shot
        port := ({ s.port with queueEmpty := true, channel := u.port.channel }).answered 0 [] } ∧
      Silenced v u ∧ PendingApplied s u ∧ UnfitRaises s u ∧
      (∀ k, s.points.at? k = none → u.points.at? k = none) ∧
      (∀ k p, s.points.at? k = some p → ∃ q, u.points.at? k = some q ∧
        ((s.run.active = some k ∨ p.status = .suspended) → p.AbortedTo q .runReset) ∧
        (s.run.active ≠ some k → p.status ≠ .suspended → q = { p with status := .idle, context := none }))

/-! ## Channels, inputs, binary outputs and the time reference: requests -/

/-- CHAN_SET checks the channel, then the five values; it is held pending while PLAYING and in force at once
otherwise, where a limit at or below the overload count takes a FIT channel out of service. CHAN_UNMUTE is refused
with BUSY while the fault line is asserted; CHAN_SERVICE is DENIED above level 1. CHANNEL is raised where the mute
flag or the fitness changed (R82, R83, R84, R91, R92, R93, R94). The model's own choices here: log entry 3. -/
def Obligations.ChannelRequestsConfigureUnmuteAndService : Prop :=
  (∀ (s : State) (raw : RawChannelConfig),
     (∀ n, (n = 0 ∨ 8 < n) →
       ∀ i ∈ [Instr.chanSet n raw, .chanGet n, .chanUnmute n, .chanService n], RefusedWith i s 0x20) ∧
     ∀ c : Chan,
       let k := ChannelConfig.mk raw.range raw.offThreshold raw.onThreshold raw.qualifying raw.overloadLimit
       let set := fun (r : Channel) (cause : Bool) (u : State) =>
         u = { s with channels := u.channels, port := ({ s.port with channel := s.port.channel || cause }).answered 0 [] } ∧
         u.channels.get c = r ∧ ∀ d, d ≠ c → u.channels.get d = s.channels.get d
       (¬ k.valid c → RefusedWith (.chanSet c.number raw) s 0x22) ∧
       (k.valid c →
         ((∃ play, s.run.state = .playing play) → ∃ u, exec (.chanSet c.number raw) s = .next u ∧
           set { s.channels.get c with pending := some k } false u) ∧
         ((∀ play, s.run.state ≠ .playing play) → ∃ u, exec (.chanSet c.number raw) s = .next u ∧
           set { s.channels.get c with
             config := k
             fit := (s.channels.get c).fit && decide ((s.channels.get c).overloads < raw.overloadLimit) }
             ((s.channels.get c).fit && decide (raw.overloadLimit ≤ (s.channels.get c).overloads)) u))) ∧
  (∀ (s : State) (c : Chan),
     let set := fun (r : Channel) (cause : Bool) (u : State) =>
       u = { s with channels := u.channels, port := ({ s.port with channel := s.port.channel || cause }).answered 0 [] } ∧
       u.channels.get c = r ∧ ∀ d, d ≠ c → u.channels.get d = s.channels.get d
     ((s.channels.get c).faultLine = true → RefusedWith (.chanUnmute c.number) s 0x25) ∧
     ((s.channels.get c).faultLine = false → ∃ u, exec (.chanUnmute c.number) s = .next u ∧
       set { s.channels.get c with mute := false } (s.channels.get c).mute u) ∧
     (1 < s.level → RefusedWith (.chanService c.number) s 0x26) ∧
     (s.level ≤ 1 → ∃ u, exec (.chanService c.number) s = .next u ∧
       set { s.channels.get c with overloads := 0, losses := 0, fit := true } (!(s.channels.get c).fit) u))

/-- INPUT_SET checks the input, then the values, thresholds in WET mode only; it is held pending while PLAYING and
in force at once otherwise, where the qualification and its run stay and entering WET from DRY clears the wet memory
(R97, R101, R110, R111). The model's own choices here: log entry 3. -/
def Obligations.InputSetConfiguresOrHolds : Prop :=
  ∀ (s : State) (raw : RawInputConfig),
    (∀ n, (n = 0 ∨ 10 < n) → ∀ i ∈ [Instr.inputSet n raw, .inputGet n], RefusedWith i s 0x20) ∧
    ∀ n : Inp,
      let bad := raw.samples = 0 ∨ 100 < raw.samples ∨ 1 < raw.polarity ∨ 1 < raw.mode ∨
        raw.mode = 1 ∧ (raw.onThreshold < 5 ∨ 300 < raw.onThreshold ∨ raw.onThreshold ≤ raw.offThreshold)
      let k := InputConfig.mk (if raw.mode = 0 then .dry else .wet raw.onThreshold raw.offThreshold) raw.samples
        (decide (raw.polarity = 1))
      let set := fun (r : Input) (u : State) =>
        u = { s with inputs := u.inputs, port := s.port.answered 0 [] } ∧
        u.inputs.get n = r ∧ ∀ m, m ≠ n → u.inputs.get m = s.inputs.get m
      (bad → RefusedWith (.inputSet n.number raw) s 0x22) ∧
      (¬ bad →
        ((∃ play, s.run.state = .playing play) → ∃ u, exec (.inputSet n.number raw) s = .next u ∧
          set { s.inputs.get n with pending := some k } u) ∧
        ((∀ play, s.run.state ≠ .playing play) → ∃ u, exec (.inputSet n.number raw) s = .next u ∧
          set { s.inputs.get n with
            config := k
            wetMemory := (s.inputs.get n).wetMemory && decide (raw.mode = 0 ∨ (s.inputs.get n).config.mode ≠ .dry) } u))

/-- OUTPUT_IDLE_SET: a mask beyond BO4 is refused with BAD_VALUE; an accepted one replaces the idle levels at once,
for INPUT_GET too, in every run state and at every level; the outputs follow at once at rest, and a state in play keeps
its own until the next transition to rest, of which SHOT_ABORT and run reset are shown here and shot ends with their
results; run reset keeps the idle levels and device reset opens all four (R113). The model's own choices here: log
entry 3. -/
def Obligations.OutputIdleSetReplacesTheIdleLevels : Prop :=
  ∀ s : State,
    (∀ mask, 15 < mask → RefusedWith (.outputIdleSet mask) s 0x22) ∧
    (∀ mask, mask ≤ 15 → ∃ u, exec (.outputIdleSet mask) s = .next u ∧
      u = { s with idleOutputs := BitVec.ofNat 4 mask, gen := { s.gen with outputs := u.gen.outputs }
                   port := s.port.answered 0 [] } ∧
      (s.gen.snapshot = none → u.gen.outputs = BitVec.ofNat 4 mask) ∧
      (s.gen.snapshot ≠ none → u.gen.outputs = s.gen.outputs) ∧
      (∀ n : Inp, ∃ payload, exec (.inputGet n.number) u = .next { u with port := u.port.answered 0 payload } ∧
        payload.length = 33 ∧ fieldAt payload 32 1 = mask) ∧
      (∀ t h p w, u.instantAhead t → u.activePoint = some (h, p) → exec (.shotAbort t) u = .next w →
        w.gen.outputs = BitVec.ofNat 4 mask)) ∧
    (∀ t u, exec (.runReset t) s = .next u → u.idleOutputs = s.idleOutputs ∧ u.gen.outputs = s.idleOutputs) ∧
    (∀ found u, exec (.deviceReset found) s = .next u → u.idleOutputs = 0 ∧ u.gen.outputs = 0)

/-- TIME_SET replaces the three values or is refused with BAD_VALUE; a missed limit at or below the missed count
brings HOLDOVER in LOCKED and a holdover limit already elapsed brings FREE in HOLDOVER, each raising TIME. TIME_GET
returns the Timebase as it stands, field by field, and then clears TIME_STEP alone (R152, R156, R157, R158). The
model's own choices here: log entries 3, 34. -/
def Obligations.TimeSetAndTimeGet : Prop :=
  (∀ (s : State) (window missed limit : Nat),
     let good := 20 ≤ window ∧ window ≤ 1000 ∧ (missed = 1 ∨ missed = 4) ∧ 1 ≤ limit ∧ limit ≤ 300
     (¬ good → RefusedWith (.timeSet window missed limit) s 0x22) ∧
     (good →
       let elapsed := ∃ entry, s.time.holdoverEntry = some entry ∧
         Tick.reached (entry + BitVec.ofNat 48 (1000000 * limit)) s.tick = true
       ∃ u b, exec (.timeSet window missed limit) s = .next u ∧
         b = { s.time with window := window, missedLimit := missed, holdoverLimit := limit
                           referenceClosed := b.referenceClosed } ∧
         (s.time.referenceKind ≠ .predicted → b.referenceClosed = s.time.referenceClosed) ∧
         u = { s with time := u.time, run := u.run
                      port := ({ s.port with time := s.port.time || decide (s.time.lock ≠ u.time.lock) }).answered 0 [] } ∧
         ((∀ w, s.run.state ≠ .startWait w) → u.run = s.run) ∧
         (s.time.lock = .locked → missed ≤ s.time.missed →
           u.time = { b with lock := .holdover, holdoverEntry := some s.tick }) ∧
         (s.time.lock = .holdover → elapsed → u.time = { b with
           lock := .free, acquisition := 0, reference := none, history := [], missed := 0, holdoverEntry := none
           label := none }) ∧
         ((s.time.lock = .locked → s.time.missed < missed) → (s.time.lock = .holdover → ¬ elapsed) → u.time = b))) ∧
  (∀ s : State, TimeInv s → s.time.acquisition < 256 → s.time.missed < 256 →
     ∃ p, exec .timeGet s =
         .next { s with time := { s.time with timeStep := false }, port := s.port.answered 0 p } ∧
       p.length = 39 ∧ fieldAt p 0 6 = s.tick.toNat ∧ fieldAt p 6 1 = s.time.lock.code ∧
       fieldAt p 7 1 = s.time.acquisition ∧ fieldAt p 8 1 = s.time.missed ∧ fieldAt p 9 2 = s.time.window ∧
       fieldAt p 11 1 = s.time.missedLimit ∧ fieldAt p 12 2 = s.time.holdoverLimit ∧
       fieldAt p 14 1 = s.time.label.isSome.toNat ∧
       (∀ l, s.time.label = some l → l.quality < 256 →
         fieldAt p 15 2 = l.day ∧ fieldAt p 17 3 = l.second ∧ fieldAt p 20 1 = l.quality) ∧
       fieldAt p 21 1 = s.time.reference.isSome.toNat ∧
       (∀ r, s.time.reference = some r → fieldAt p 22 6 = r.toNat) ∧
       fieldAt p 28 4 = (if s.time.history = [] then 0
         else (2 * s.time.history.sum + s.time.history.length) / (2 * s.time.history.length)) ∧
       fieldAt p 32 1 = s.time.history.length ∧ fieldAt p 33 1 = s.time.held.isSome.toNat ∧
       fieldAt p 34 2 = s.time.spurious ∧ fieldAt p 36 2 = s.time.discards ∧
       fieldAt p 38 1 = s.time.timeStep.toNat)

/-! ## Events on the sampled lines -/

/-- A sample that disagrees with its input starts a pending run with its own tick as candidate, or cuts one short as
a bounce, counted inside the recording window alone. A bounce into INACTIVE during RESET_WAIT ends the wait as a
release does, where no monitored input then stands outside INACTIVE. In DRY mode the line decides, in WET mode the
voltage with the wet memory between the thresholds; INVERTED takes the opposite (R52, R96 to R100, R104, R109). The
model's own choices here: log entries 2, 7, 11. -/
def Obligations.SensedLevelChangeStartsOrCutsARun : Prop :=
  ∀ (s : State) (t : Tick) (n : Inp) (closed : Bool) (volts : BitVec 9) (raw : Bool),
    s.sampleAhead t → (s.inputs.get n).sampledAt ≠ some t →
    let i := s.inputs.get n
    (i.config.mode = .dry → raw = closed) →
    (∀ on off, i.config.mode = .wet on off → raw =
      if on ≤ min volts.toNat 300 then true else if min volts.toNat 300 ≤ off then false else i.wetMemory) →
    let level := raw != i.config.inverted
    let counted := if s.run.state.started then min 255 (i.entry.bounces + 1) else i.entry.bounces
    let sampled := fun (u : State) (q : Qualification) (bounces : Nat) =>
      exec (.sensedLevelChange t n closed volts) s = .next u ∧ (∀ m, m ≠ n → u.inputs.get m = s.inputs.get m) ∧
      u.inputs.get n = { i with
        qualification := q
        wetMemory := if i.config.mode = .dry then i.wetMemory else raw
        sensed := level
        sampledAt := some t
        entry := { i.entry with bounces := bounces } }
    let becomes := fun (q : Qualification) (bounces : Nat) =>
      ∃ u, sampled u q bounces ∧ u = { s with tick := t, inputs := u.inputs }
    (i.qualification = .inactive → level = true → 2 ≤ i.config.samples → becomes (.pendingOn 1 t) i.entry.bounces) ∧
    (∀ r c, i.qualification = .pendingOn r c → level = false →
      ((∀ a b, s.run.state ≠ .resetWait a b) → becomes .inactive counted) ∧
      ∀ since limit h p, s.run.state = .resetWait since limit → s.activePoint = some (h, p) →
        ∃ u, sampled u .inactive i.entry.bounces ∧
          (n.isIn p.content.monitored = false ∨ ¬ u.RelayHasReset p.content →
            u = { s with tick := t, inputs := u.inputs }) ∧
          (n.isIn p.content.monitored = true → u.RelayHasReset p.content →
            (s.ScheduleGives p.content.start none →
              u = { s with tick := t, inputs := u.inputs
                           run := { s.run with state := s.goesOn p.content t } }) ∧
            (∀ reason, s.ScheduleGives p.content.start (some reason) →
              AbortedAt { s with inputs := u.inputs } u h p reason t ∧ u.port = s.port))) ∧
    (i.qualification = .active → level = false → 2 ≤ i.config.samples → becomes (.pendingOff 1 t) i.entry.bounces) ∧
    (∀ r c, i.qualification = .pendingOff r c → level = true → becomes .active counted)

/-- The sample that brings a pending run to Q, or the first with Q of 1, makes the input ACTIVE with the candidate
tick as operate timestamp. Inside the recording window the first operate enters the table, no earlier than the start
instant, and a monitored input joins the operated set: ANY qualifies on the first, ALL on the last, with the latest
operate tick as its timestamp (R99, R101, R103, R106, R107, R108). The model's own choices here: log entries 2, 7.
-/
def Obligations.OperateIsBackDatedAndQualifies : Prop :=
  ∀ (s : State) (t : Tick) (n : Inp) (stamp : Tick), s.sampleAhead t → (s.inputs.get n).sampledAt ≠ some t →
    let i := s.inputs.get n
    (i.qualification = .inactive ∧ i.config.samples ≤ 1 ∧ stamp = t ∨
      ∃ r, i.qualification = .pendingOn r stamp ∧ i.config.samples ≤ r + 1) →
    let first := s.run.state.started = true ∧ i.entry.operate = none
    let early := Tick.before stamp s.shot.started
    let tick := if early then s.shot.started else stamp
    ∃ u, exec (.operate t n) s = .next u ∧
      u = { s with tick := t, inputs := u.inputs, shot := { s.shot with criterion := u.shot.criterion } } ∧
      (∀ m, m ≠ n → u.inputs.get m = s.inputs.get m) ∧
      u.inputs.get n = { i with
        qualification := .active
        wetMemory := if i.config.mode = .dry then i.wetMemory else !i.config.inverted
        sensed := true
        sampledAt := some t
        entry := if first then { i.entry with operate := some tick, standing := early } else i.entry } ∧
      (¬ first → u.shot.criterion = s.shot.criterion) ∧
      (s.activePoint = none → u.shot.criterion = s.shot.criterion) ∧
      (∀ h p, s.activePoint = some (h, p) →
        let others := fun m : Inp => m ≠ n ∧ m.isIn p.content.monitored = true
        (n.isIn p.content.monitored = false → u.shot.criterion = s.shot.criterion) ∧
        (first → n.isIn p.content.monitored = true →
          (p.content.combine = .any → s.shot.criterion = none →
            ((∃ m, others m ∧ (s.inputs.get m).entry.operate.isSome) → u.shot.criterion = none) ∧
            ((∀ m, others m → (s.inputs.get m).entry.operate = none) →
              u.shot.criterion = some { qualifying := t, timestamp := tick })) ∧
          (p.content.combine = .any → ∀ k, s.shot.criterion = some k →
            (k.qualifying ≠ t → u.shot.criterion = some k) ∧
            (k.qualifying = t → u.shot.criterion = some (Criterion.mk t
              (if Tick.elapsed s.shot.started k.timestamp ≤ Tick.elapsed s.shot.started tick then k.timestamp
              else tick)))) ∧
          (p.content.combine = .all → ∀ k, s.shot.criterion = some k → u.shot.criterion = some k) ∧
          (p.content.combine = .all → s.shot.criterion = none →
            ((∃ m, others m ∧ (s.inputs.get m).entry.operate = none) → u.shot.criterion = none) ∧
            ((∀ m, others m → (s.inputs.get m).entry.operate.isSome) →
              ∃ latest, u.shot.criterion = some { qualifying := t, timestamp := latest } ∧
                (∃ m : Inp, m.isIn p.content.monitored = true ∧ (u.inputs.get m).entry.operate = some latest) ∧
                ∀ (m : Inp) (o : Tick), m.isIn p.content.monitored = true → (u.inputs.get m).entry.operate = some o →
                  Tick.elapsed s.shot.started o ≤ Tick.elapsed s.shot.started latest))))

/-- The sample that completes a release makes the input INACTIVE with the candidate tick as release timestamp,
recorded inside the window after an operate and once; in RESET_WAIT it leads on from the wait when no monitored
input stands outside INACTIVE, an AT_TIME test point after a second schedule check (R52, R100, R101, R103, R109). That
an IMMEDIATE start lies strictly after the release is the model's own choice, log entry 11; so are log entries 2, 7. -/
def Obligations.ReleaseIsBackDatedAndEndsTheWait : Prop :=
  ∀ (s : State) (t : Tick) (n : Inp) (stamp : Tick), s.sampleAhead t → (s.inputs.get n).sampledAt ≠ some t →
    let i := s.inputs.get n
    (i.qualification = .active ∧ i.config.samples ≤ 1 ∧ stamp = t ∨
      ∃ r, i.qualification = .pendingOff r stamp ∧ i.config.samples ≤ r + 1) →
    let recorded := s.run.state.started = true ∧ i.entry.operate.isSome ∧ i.entry.release = none
    ∃ u, exec (.release t n) s = .next u ∧
      (∀ m, m ≠ n → u.inputs.get m = s.inputs.get m) ∧
      u.inputs.get n = { i with
        qualification := .inactive
        wetMemory := if i.config.mode = .dry then i.wetMemory else i.config.inverted
        sensed := false
        sampledAt := some t
        entry := if recorded then
            { i.entry with release := some (if Tick.before stamp s.shot.started then s.shot.started else stamp) }
          else i.entry } ∧
      ((∀ a b, s.run.state ≠ .resetWait a b) → u = { s with tick := t, inputs := u.inputs }) ∧
      (∀ since limit h p, s.run.state = .resetWait since limit → s.activePoint = some (h, p) →
        (n.isIn p.content.monitored = false ∨ ¬ u.RelayHasReset p.content →
          u = { s with tick := t, inputs := u.inputs }) ∧
        (n.isIn p.content.monitored = true → u.RelayHasReset p.content →
          (s.ScheduleGives p.content.start none →
            u = { s with tick := t, inputs := u.inputs
                         run := { s.run with state := s.goesOn p.content t } }) ∧
          (∀ reason, s.ScheduleGives p.content.start (some reason) →
            AbortedAt { s with inputs := u.inputs } u h p reason t ∧ u.port = s.port)))

/-- INPUT_SAMPLE takes one sample of each of the ten inputs: every one is sensed by its own line and voltage, and
moves by the qualification table (R96 to R101). The model's own choices here: log entries 2, 7. -/
def Obligations.InputSampleSensesEveryInput : Prop :=
  ∀ (s : State) (t : Tick) (closed : BitVec 10) (volts : PerInput (BitVec 9)), s.sampleAhead t →
    (∀ n, (s.inputs.get n).sampledAt ≠ some t) → (∀ n, (s.inputs.get n).config.valid) →
    ∃ u, exec (.inputSample t closed volts) s = .next u ∧ u.tick = t ∧
      ((∀ a b, s.run.state ≠ .resetWait a b) →
        u = { s with tick := t, inputs := u.inputs, shot := { s.shot with criterion := u.shot.criterion } }) ∧
      ∀ n : Inp, ∃ raw : Bool,
        let i := s.inputs.get n
        let v := min (volts.get n).toNat 300
        (i.config.mode = .dry → raw = closed.getLsbD (n.number - 1)) ∧
        (∀ on off, i.config.mode = .wet on off →
          raw = if on ≤ v then true else if v ≤ off then false else i.wetMemory) ∧
        let level := raw != i.config.inverted
        let q := i.config.samples
        (u.inputs.get n).sensed = level ∧ (u.inputs.get n).sampledAt = some t ∧
        (u.inputs.get n).config = i.config ∧ (u.inputs.get n).pending = i.pending ∧
        (u.inputs.get n).wetMemory = (if i.config.mode = .dry then i.wetMemory else raw) ∧
        (u.inputs.get n).qualification =
          match i.qualification, level with
          | .inactive, false => .inactive
          | .inactive, true => if q = 1 then .active else .pendingOn 1 t
          | .pendingOn r c, true => if q ≤ r + 1 then .active else .pendingOn (r + 1) c
          | .pendingOn _ _, false => .inactive
          | .active, true => .active
          | .active, false => if q = 1 then .inactive else .pendingOff 1 t
          | .pendingOff r c, false => if q ≤ r + 1 then .inactive else .pendingOff (r + 1) c
          | .pendingOff _ _, true => .active

/-- Q agreeing samples in a row, and no fewer, qualify an operate stamped with the first of them; Qc short windows
in a row, and no fewer, make NORMAL into LOST, and Qc full ones LOST into NORMAL (R87, R99). -/
def Obligations.RunsQualifyAtTheirLength : Prop :=
  (∀ (q : Nat) (ticks : List Tick) (first : Tick), 1 ≤ q → ticks.head? = some first →
    let taken := ticks.foldl (fun a t => qualify q t true a.1) (Qualification.inactive, InputChange.nothing)
    (ticks.length < q → taken = (.pendingOn ticks.length first, .nothing)) ∧
    (ticks.length = q → taken = (.active, .operated first))) ∧
  (∀ (k : Channel) (ratios : List Nat), k.qualifying = 0 →
    let after := ratios.foldl (fun c r => c.classify r) k
    (k.lost = false → (∀ r ∈ ratios, r < k.config.offThreshold) →
      (ratios.length < k.config.qualifying → after = { k with qualifying := ratios.length }) ∧
      (1 ≤ ratios.length → ratios.length = k.config.qualifying →
        after = { k with lost := true, losses := min (k.losses + 1) 65535 })) ∧
    (k.lost = true → k.config.offThreshold ≤ k.config.onThreshold → (∀ r ∈ ratios, k.config.onThreshold ≤ r) →
      (ratios.length < k.config.qualifying → after = { k with qualifying := ratios.length }) ∧
      (1 ≤ ratios.length → ratios.length = k.config.qualifying → after = { k with lost := false })))

/-- An assertion found on a deasserted line mutes the channel, counts the overload up to 255, makes a FIT channel
UNFIT at the limit, reports the fault while PLAYING, the first report standing, and raises CHANNEL; on a line already
asserted, or read before at that instant, nothing happens. A deassertion clears nothing but the line (R63, R89, R90,
R92, R94, R177). The model's own choices here: log entries 2, 7. -/
def Obligations.FaultLinesMuteAndCount : Prop :=
  ∀ (s : State) (t : Tick) (c : Chan), s.sampleAhead t →
    let k := s.channels.get c
    let count := min (k.overloads + 1) 255
    (k.faultLine = true ∨ k.lineReadAt = t →
      exec (.amplifierFaultAssertion t c) s = .next { s with tick := t }) ∧
    (k.lineReadAt = t → exec (.faultLineDeassertion t c) s = .next { s with tick := t }) ∧
    (k.faultLine = false → k.lineReadAt ≠ t → ∃ u, exec (.amplifierFaultAssertion t c) s = .next u ∧
      u = { s with tick := t, channels := u.channels, run := { s.run with state := u.run.state }
                   port := { s.port with channel := true } } ∧
      u.channels.get c = { k with
        faultLine := true, lineReadAt := t, mute := true, overloads := count
        fit := k.fit && decide (count < k.config.overloadLimit) } ∧
      (∀ d, d ≠ c → u.channels.get d = s.channels.get d) ∧
      ((∀ play, s.run.state ≠ .playing play) → u.run.state = s.run.state) ∧
      ∀ play, s.run.state = .playing play →
        (play.fault = none → u.run.state = .playing { play with fault := some t }) ∧
        (play.fault ≠ none → u.run.state = s.run.state)) ∧
    (k.lineReadAt ≠ t →
      ∃ u, exec (.faultLineDeassertion t c) s = .next u ∧ u = { s with tick := t, channels := u.channels } ∧
      u.channels.get c = { k with faultLine := false, lineReadAt := t } ∧ ∀ d, d ≠ c → u.channels.get d = s.channels.get d)

/-- At the generator instant after the last one stepped, every accumulator advances by its step and every channel
delivers one sample: the one computed at the new angle, or 0 while muted. The feedback samples of an unsupervised
channel change nothing (R67, R70, R71, R85). The model's own choices here: log entries 2, 7, 9. -/
def Obligations.GeneratorInstantDeliversOneSample : Prop :=
  ∀ (s : State) (t last : Tick) (feedback : PerChannel (BitVec 16)), s.instantAhead t →
    s.gen.instant = some last → last.toNat % 20 = 0 → t = last + 20 → last.toNat + 20 < 2 ^ 48 →
    ∃ u, exec (.generatorInstant t feedback) s = .next u ∧
      u = { s with
        tick := t
        gen := { s.gen with
          synths := u.gen.synths, instant := some t, v1Before := s.gen.synths.v1.accumulator }
        channels := u.channels
        shot := { s.shot with changes := u.shot.changes }
        port := { s.port with channel := u.port.channel } } ∧
      ∀ c : Chan,
        let y := s.gen.synths.get c
        let sample := sampleAt y.peak (y.accumulator + y.step + y.offset)
        (∃ drive, u.gen.synths.get c = { y with accumulator := y.accumulator + y.step, drive := drive } ∧
          (y.peak ≤ 32767 → drive.toInt = if (s.channels.get c).mute then 0 else sample)) ∧
        ((s.channels.get c).window = none → u.channels.get c = s.channels.get c) ∧
        (∀ w, (s.channels.get c).window = some w → (s.channels.get c).fedAt ≠ some t →
          w.taken + 1 < (50000000 + y.frequency) / (2 * y.frequency) →
          u.channels.get c = { s.channels.get c with
            fedAt := some t
            window := some { w with taken := w.taken + 1, sum := w.sum + (feedback.get c).toInt.natAbs } }) ∧
        ((∀ d, (s.channels.get d).window = none) →
          u.shot.changes = s.shot.changes ∧ u.port.channel = s.port.channel)

/-- A waveform has no mean offset: samples are antisymmetric over the half-turn and none exceeds the peak code
(R70). Whatever the target, a turning accumulator reaches or passes it on some step of its next turn (R77). -/
def Obligations.SamplesAreAntisymmetricAndTargetsAreMet : Prop :=
  (∀ (peak : Nat) (angle : Phase),
     sampleAt peak (angle + 0x80000000) = -sampleAt peak angle ∧ (sampleAt peak angle).natAbs ≤ peak) ∧
  (∀ (accumulator step target : Phase), 0 < step.toNat →
     ∃ n : Nat, n * step.toNat < 2 ^ 32 ∧
       onArc (accumulator + step * BitVec.ofNat 32 n) (accumulator + step * BitVec.ofNat 32 (n + 1)) target = true)

/-- The sample that completes a window after the first yields an estimate, and its ratio is classed: short windows
count towards LOST, full ones back to NORMAL, and one in between breaks either run. A change counts a loss, raises
CHANNEL and is handed over with its decision tick (R85, R86, R87). The model's own choices here: log entries 2, 7.
-/
def Obligations.WindowEstimateIsClassed : Prop :=
  ∀ (s : State) (t : Tick) (c : Chan) (feedback : BitVec 16) (w : Window), s.instantAhead t →
    let k := s.channels.get c
    let y := s.gen.synths.get c
    let samples := (50000000 + y.frequency) / (2 * y.frequency)
    k.window = some w → w.settling = false → w.taken + 1 = samples → k.fedAt ≠ some t →
    let sum := w.sum + feedback.toInt.natAbs
    let divisor := 10000 * 23170 * samples
    let estimate := (2 * (11107 * (sum * k.config.range)) + divisor) / (2 * divisor)
    let ratio := 1000 * estimate / y.applied
    let short := decide (ratio < k.config.offThreshold)
    let full := decide (k.config.offThreshold ≤ ratio ∧ k.config.onThreshold ≤ ratio)
    let decides := decide (k.config.qualifying ≤ k.qualifying + 1)
    let lose := !k.lost && short && decides
    let regain := k.lost && full && decides
    let counts := (!k.lost && short || k.lost && full) && !decides
    ∃ u, exec (.windowEstimate t c feedback) s = .next u ∧
      u = { s with
        tick := t
        channels := u.channels
        shot := { s.shot with changes :=
          if lose || regain then s.shot.changes ++ [{ channel := c, lost := lose, decision := t }] else s.shot.changes }
        port := { s.port with channel := s.port.channel || lose || regain } } ∧
      (∀ d, d ≠ c → u.channels.get d = s.channels.get d) ∧
      u.channels.get c = { k with
        window := some { settling := false, taken := 0, sum := 0 }
        fedAt := some t
        lost := (k.lost || lose) && !regain
        qualifying := if counts then k.qualifying + 1 else 0
        losses := if lose then min (k.losses + 1) 65535 else k.losses }

/-! ## Shots -/

/-- SHOT_START clears the operation table, marks the inputs that stand, empties the shot record and enters the first
state at the start instant, or begins a deferral where that state is the fault state and its point on the wave is
not reached. A scheduled start hands over skew and lock state and sets every accumulator to 0 (R54, R55, R78, R102,
R115, R161). The model's own choices here: log entries 2, 9. -/
def Obligations.ShotStartEntersTheFirstState : Prop :=
  ∀ (s : State) (t : Tick) (h k : Nat) (p : TestPoint) (r : StateRecord) (rest : List Nat),
    s.instantAhead t → s.activePoint = some (h, p) → p.content.states = k :: rest → s.states.at? k = some r →
    let content := p.playedContent 1 r.content
    let isFault := p.content.faultPosition = 1
    let started := fun (v u : State) (conditions : Option (Lock × Nat)) (fault : Option Tick) (meets : Phase → Prop) =>
      u = { s with
        tick := t, gen := u.gen, channels := u.channels, inputs := u.inputs, shot := u.shot
        run := { s.run with state := u.run.state } } ∧
      (∀ n, u.inputs.get n = { s.inputs.get n with entry :=
        match (s.inputs.get n).qualification with
        | .active => { operate := some t, standing := true, release := none, bounces := 0 }
        | .pendingOff _ _ => { operate := some t, standing := true, release := none, bounces := 0 }
        | .inactive => { operate := none, standing := false, release := none, bounces := 0 }
        | .pendingOn _ _ => { operate := none, standing := false, release := none, bounces := 0 } }) ∧
      u.shot.started = t ∧ u.shot.startConditions = conditions ∧ u.shot.criterion = none ∧
      u.shot.changes = [] ∧ u.shot.clampNotes = [] ∧ u.shot.faultEnd = none ∧
      let enters := StateEntered v u k content t ∧ u.run.state = .playing { stage := .inPlay 1 t, fault := fault } ∧
        u.shot.entries = [{ entry := t, amplitudes := content.settings.map fun c => c.amplitude }] ∧
        (isFault → InceptionAt v u p.content content t) ∧
        (¬ isFault → u.shot.inception = none ∧ u.shot.working = none)
      let defers := u.run.state = .playing { stage := .deferredFirst, fault := fault } ∧
        u.channels = s.channels ∧ u.gen = { v.gen with synths := u.gen.synths } ∧
        (∀ c, u.gen.synths.get c = { v.gen.synths.get c with
          frequency := (r.content.settings.get c).frequency
          step := phaseStep (r.content.settings.get c).frequency
          offset := phaseOf (r.content.settings.get c).angle }) ∧
        u.shot.entries = [] ∧ u.shot.inception = none ∧ u.shot.working = none;
      ((¬ isFault ∨ r.content.inception = .continuous) → enters) ∧
      (∀ theta, isFault → r.content.inception = .angle theta →
        (meets (phaseOf theta) → enters) ∧ (¬ meets (phaseOf theta) → defers))
    (∀ due fault, s.run.state = .playing { stage := .ready due, fault := fault } → Tick.reached due t = true →
      ∃ u, exec (.shotStart t) s = .next u ∧
        started { s with gen := s.gen.arrive t } u none fault fun target => (s.gen.arrive t).meets target = true) ∧
    (∀ wait start skew, s.run.state = .startWait wait → wait.start = some (start, skew) → wait.lost = none →
      Tick.reached start t = true →
      ∃ u, exec (.shotStart t) s = .next u ∧ (∀ c, (u.gen.synths.get c).accumulator = 0) ∧
        started { s with gen := (s.gen.arrive t).zero t } u (some (s.time.lock, skew)) none fun target => target = 0)

/-- A state ends when its duration has run out, or in an INPUT state when the criterion qualified at or after its
entry and before the instant. The next state is then entered, its predecessor's clamp notes handed over; where it is
the fault state and its point on the wave is not reached, the ended state stays in play (R55, R56, R57, R74, R77).
The model's own choices here: log entry 2. -/
def Obligations.EndedStatesLeadToTheNext : Prop :=
  ∀ (s : State) (t : Tick) (i : Instr) (h k position : Nat) (p : TestPoint) (r : StateRecord) (entry : Tick)
    (fault : Option Tick) (snapshot : Snapshot),
    s.instantAhead t → s.activePoint = some (h, p) →
    s.run.state = .playing { stage := .inPlay position entry, fault := fault } → s.gen.snapshot = some snapshot →
    p.content.states[position]? = some k → s.states.at? k = some r →
    (i = .stateDurationEnd t ∧ Tick.reached (entry + BitVec.ofNat 48 snapshot.content.duration) t = true ∨
      i = .inputStateEnd t ∧ snapshot.content.endCondition = .input ∧ ∃ c, s.shot.criterion = some c ∧
        Tick.reached entry c.qualifying = true ∧ Tick.before c.qualifying t = true) →
    let v := { s with gen := s.gen.arrive t }
    let content := p.playedContent (position + 1) r.content
    let isFault := p.content.faultPosition = position + 1
    ∃ u, exec i s = .next u ∧
      u = { s with
        tick := t, gen := u.gen, channels := u.channels, shot := u.shot
        run := { s.run with state := u.run.state } } ∧
      u.shot.faultEnd = (if position = p.content.faultPosition then some t else s.shot.faultEnd) ∧
      let enters := StateEntered v u k content t ∧ NotesHanded v u t ∧
        u.run.state = .playing { stage := .inPlay (position + 1) t, fault := fault } ∧
        u.shot.entries = s.shot.entries ++ [{ entry := t, amplitudes := content.settings.map fun c => c.amplitude }] ∧
        (isFault → InceptionAt v u p.content content t) ∧
        (¬ isFault → u.shot.inception = s.shot.inception ∧ u.shot.working = s.shot.working);
      ((¬ isFault ∨ r.content.inception = .continuous) → enters) ∧
      (∀ theta, isFault → r.content.inception = .angle theta →
        (v.gen.meets (phaseOf theta) = true → enters) ∧
        (v.gen.meets (phaseOf theta) = false → u.gen = v.gen ∧ u.channels = s.channels ∧
          u.run.state = .playing { stage := .deferred position, fault := fault } ∧
          u.shot = { s.shot with faultEnd := u.shot.faultEnd }))

/-- The point-on-wave inception: at the instant whose step sweeps V1's accumulator onto or past the target the
deferred fault state is entered, the inception tick; before it only the accumulators move (R55, R74, R77, R78, R79).
The model's own choices here: log entries 2, 9. -/
def Obligations.PointOnWaveInceptionEntersTheFaultState : Prop :=
  ∀ (s : State) (t : Tick) (h k position theta : Nat) (p : TestPoint) (r : StateRecord) (stage : Stage)
    (fault : Option Tick),
    s.instantAhead t → s.activePoint = some (h, p) → s.run.state = .playing { stage := stage, fault := fault } →
    (stage = .deferredFirst ∧ position = 0 ∨ stage = .deferred position) →
    p.content.faultPosition = position + 1 → p.content.states[position]? = some k → s.states.at? k = some r →
    r.content.inception = .angle theta →
    let v := { s with gen := s.gen.arrive t }
    let content := p.playedContent (position + 1) r.content
    let swept := (v.gen.synths.v1.accumulator - v.gen.v1Before).toNat
    let far := (phaseOf theta - v.gen.v1Before).toNat
    (0 < far ∧ far ≤ swept →
      ∃ u, exec (.pointOnWaveInception t) s = .next u ∧
        u = { s with
          tick := t, gen := u.gen, channels := u.channels, shot := u.shot
          run := { s.run with state := .playing { stage := .inPlay (position + 1) t, fault := fault } } } ∧
        StateEntered v u k content t ∧ NotesHanded v u t ∧ InceptionAt v u p.content content t ∧
        u.shot.entries = s.shot.entries ++ [{ entry := t, amplitudes := content.settings.map fun c => c.amplitude }]) ∧
    (far = 0 ∨ swept < far → exec (.pointOnWaveInception t) s = .next { v with tick := t })

/-- The fault state of a search shot plays the trial on the varied channels and the record elsewhere. At the shot
end a doubtful shot ends the search INCONCLUSIVE; the bracketing shots confirm the limits or end it NO_BRACKET; a
bisection moves one limit to the trial; then convergence is tested before the shots run out, and the boundary is
judged against its closed band (R80, R134, R136, R137, R138). -/
def Obligations.SearchTrialsAndProcedure : Prop :=
  (∀ (p : TestPoint) (k : SearchParams) (c : SearchContext) (content : StateContent) (position : Nat),
     p.content.kind = .search k → p.context = some c →
     (position ≠ p.content.faultPosition → p.playedContent position content = content) ∧
     (position = p.content.faultPosition → ∃ trial,
       (c.phase = .bracketHigh → trial = c.upper) ∧ (c.phase = .bracketLow → trial = c.lower) ∧
       (c.phase = .bisect → trial = c.lower + (c.upper - c.lower) / 2 ∧
         (c.lower + 2 ≤ c.upper → c.lower < trial ∧ trial < c.upper)) ∧
       p.playedContent position content = { content with settings := (p.playedContent position content).settings } ∧
       ∀ ch : Chan, (p.playedContent position content).settings.get ch =
         if k.varied.getLsbD (ch.number - 1) then { content.settings.get ch with amplitude := trial }
         else content.settings.get ch)) ∧
  (∀ (p : SearchParams) (c : SearchContext),
     let trial := c.lower + (c.upper - c.lower) / 2
     let used := { c with shotsUsed := c.shotsUsed + 1 }
     let hw := max p.toleranceAbsolute (p.boundary * p.tolerancePercent / 1000)
     let tested := fun (d : SearchContext) (next : SearchNext) =>
       (d.upper - d.lower ≤ p.resolution →
         next = .finish (if d.upper < p.boundary - hw then .failLow
           else if p.boundary + hw < d.upper then .failHigh else .pass) d (some d.upper)) ∧
       (p.resolution < d.upper - d.lower → d.shotsUsed = p.maximumShots → next = .finish .notConverged d (some d.upper)) ∧
       (p.resolution < d.upper - d.lower → d.shotsUsed ≠ p.maximumShots → next = .goOn d)
     (∀ tripped, searchStep p c tripped true = .finish .inconclusive used (some c.upper)) ∧
     (c.phase = .bracketHigh → searchStep p c true false = .goOn { used with phase := .bracketLow } ∧
       searchStep p c false false = .finish .noBracket used none) ∧
     (c.phase = .bracketLow → searchStep p c true false = .finish .noBracket used none ∧
       tested { used with phase := .bisect } (searchStep p c false false)) ∧
     (c.phase = .bisect → tested { used with upper := trial } (searchStep p c true false) ∧
       tested { used with lower := trial } (searchStep p c false false)))

/-- At the shot end of a SHOT test point the result is posted with the verdict of the ordered decision:
FAIL_UNWANTED on an operation before inception, INCONCLUSIVE where delivery is in doubt over the interval judged to the
trip or else to the shot end, and else by the expectation, with SHORT_WINDOW in its one row. It holds the measured time
and the operated inputs. Outputs go to rest, pending configurations are applied and REST is entered (R38, R58, R75,
R83, R88, R116, R118 to R123, R125, R126). The model's own choices here: log entries 2, 14. -/
def Obligations.ShotEndPostsTheVerdict : Prop :=
  ∀ (s : State) (t : Tick) (i : Instr) (h position : Nat) (p : TestPoint) (x : Expectation) (a b : Nat) (entry : Tick)
    (fault : Option Tick) (snapshot : Snapshot) (inception : Tick) (w : Working),
    s.instantAhead t → s.activePoint = some (h, p) → p.content.kind = .shot x a b →
    s.run.state = .playing { stage := .inPlay position entry, fault := fault } → s.gen.snapshot = some snapshot →
    p.content.states.length ≤ position → s.shot.inception = some inception → s.shot.working = some w →
    (i = .stateDurationEnd t ∧ Tick.reached (entry + BitVec.ofNat 48 snapshot.content.duration) t = true ∨
      i = .inputStateEnd t ∧ snapshot.content.endCondition = .input ∧ ∃ c, s.shot.criterion = some c ∧
        Tick.reached entry c.qualifying = true ∧ Tick.before c.qualifying t = true) →
    let v := { s with gen := s.gen.arrive t }
    let measured := s.shot.tripTime
    let judged := s.shot.tripInstant.getD t
    ∃ u q r, exec i s = .next u ∧
      u = { s with
        tick := t
        points := u.points
        run := { s.run with active := none, state := .rest t s.run.setup.restInterval false none }
        gen := { v.gen with synths := u.gen.synths, snapshot := none, outputs := s.idleOutputs }
        channels := u.channels
        inputs := u.inputs
        shot := { s.shot with working := none, clampNotes := u.shot.clampNotes, faultEnd := u.shot.faultEnd }
        port := { s.port with channel := u.port.channel } } ∧
      Silenced v u ∧ PendingApplied s u ∧ UnfitRaises s u ∧ NotesHanded v u t ∧
      u.points.at? h = some q ∧ p.Posted q r ∧ (∀ k, k ≠ h → u.points.at? k = s.points.at? k) ∧
      r.reason = none ∧ r.search = none ∧ r.expected = w.expected? ∧ r.multiple = w.multiple? ∧
      r.revision = w.revision? ∧ r.skew = s.shot.startConditions.map Prod.snd ∧
      (r.flags.timeHoldover = true ↔ ∃ skew, s.shot.startConditions = some (.holdover, skew)) ∧
      r.measured = measured.map (fun time => min time 4294967295) ∧ s.OperatedListed r.operated ∧
      (r.flags.prefault = true ↔ s.OperatedEarly p.content) ∧
      (r.flags.clamped = true ↔ s.ClampedIn inception judged) ∧
      (r.flags.compliance = true ↔ s.shot.LostIn inception judged) ∧
      (r.flags.prefault = true → r.verdict = .failUnwanted ∧ r.flags.shortWindow = false) ∧
      (r.flags.prefault = false → (r.flags.clamped = true ∨ r.flags.compliance = true) →
        r.verdict = .inconclusive ∧ r.flags.shortWindow = false) ∧
      (r.flags.prefault = false → r.flags.clamped = false → r.flags.compliance = false →
        (w = .unjudged → r.verdict = .recorded ∧ r.flags.shortWindow = false) ∧
        ((w = .noTrip ∨ ∃ m v, w = .curveBelow m v) → r.flags.shortWindow = false ∧
          r.verdict = if measured.isSome then .failUnwanted else .pass) ∧
        ∀ e, w.expected? = some e →
          (∀ time, measured = some time → r.flags.shortWindow = false ∧
            r.verdict = if time < e.low then .failEarly else if e.high < time then .failLate else .pass) ∧
          (measured = none → (r.flags.shortWindow = true ↔ Tick.elapsed inception t < e.high) ∧
            r.verdict = if e.high ≤ Tick.elapsed inception t then .failNoTrip else .inconclusive))

/-- At the shot end of a search shot the two findings go through the search procedure: the context is updated and
the search stays ACTIVE through the REST, a reported amplifier fault kept with it, or its one result is posted with the
flags named and the operated inputs (R58, R118 to R120, R125, R132, R135, R136, R139, R140, R144). The model's own
choices here: log entries 2, 14, 18. -/
def Obligations.SearchShotEndsFeedTheProcedure : Prop :=
  ∀ (s : State) (t : Tick) (i : Instr) (h position : Nat) (p : TestPoint) (k : SearchParams) (c : SearchContext)
    (entry : Tick) (fault : Option Tick) (snapshot : Snapshot) (inception : Tick),
    s.instantAhead t → s.activePoint = some (h, p) → p.content.kind = .search k → p.context = some c →
    s.run.state = .playing { stage := .inPlay position entry, fault := fault } → s.gen.snapshot = some snapshot →
    p.content.states.length ≤ position → s.shot.inception = some inception →
    (i = .stateDurationEnd t ∧ Tick.reached (entry + BitVec.ofNat 48 snapshot.content.duration) t = true ∨
      i = .inputStateEnd t ∧ snapshot.content.endCondition = .input ∧ ∃ c, s.shot.criterion = some c ∧
        Tick.reached entry c.qualifying = true ∧ Tick.before c.qualifying t = true) →
    let v := { s with gen := s.gen.arrive t }
    let faultEnd := if position = p.content.faultPosition then some t else s.shot.faultEnd
    ∃ (u : State) (q : TestPoint) (tripped prefault clamped compliance : Bool), exec i s = .next u ∧
      u = { s with
        tick := t
        points := u.points
        run := { s.run with
          active := u.run.active
          state := .rest t s.run.setup.restInterval false (if u.run.active = none then none else fault) }
        gen := { v.gen with synths := u.gen.synths, snapshot := none, outputs := s.idleOutputs }
        channels := u.channels
        inputs := u.inputs
        shot := { s.shot with
          working := u.shot.working, clampNotes := u.shot.clampNotes, faultEnd := faultEnd }
        port := { s.port with channel := u.port.channel } } ∧
      Silenced v u ∧ PendingApplied s u ∧ UnfitRaises s u ∧ NotesHanded v u t ∧
      u.points.at? h = some q ∧ (∀ k, k ≠ h → u.points.at? k = s.points.at? k) ∧
      (tripped = true ↔ ∃ m, s.shot.criterion = some m ∧ Tick.reached inception m.timestamp = true ∧
        ∀ e, faultEnd = some e → Tick.reached m.qualifying e = true) ∧
      (let judged := if tripped then s.shot.tripInstant.getD t else t;
        (prefault = true ↔ s.OperatedEarly p.content) ∧ (clamped = true ↔ s.ClampedIn inception judged) ∧
        (compliance = true ↔ s.shot.LostIn inception judged)) ∧
      match searchStep k c tripped (prefault || clamped || compliance) with
      | .goOn d => q = { p with context := some d } ∧ u.run.active = s.run.active
      | .finish verdict d boundary => u.run.active = none ∧ ∃ r, p.Posted q r ∧ r.verdict = verdict ∧
        r.reason = none ∧ r.measured = none ∧ r.expected = none ∧ r.multiple = none ∧ r.revision = none ∧
        r.skew = none ∧ r.flags.prefault = prefault ∧ r.flags.clamped = clamped ∧ r.flags.compliance = compliance ∧
        r.flags.shortWindow = false ∧ r.flags.timeHoldover = false ∧ s.OperatedListed r.operated ∧
        r.search = some { lower := d.lower, upper := d.upper, boundary := boundary, shotsUsed := d.shotsUsed }

/-- The end of REST: with no test point ACTIVE, IDLE, with QUEUE_EMPTY on an empty queue and else the head taken as
RUN_RELEASE takes it in IDLE. An ACTIVE search stays in REST while held; at the end of an unheld REST, or at the
RUN_RELEASE of a REST that has ended, it yields to a marked entry by its policy, and otherwise makes PRECHECK for its
next shot (R45, R48, R49, R50, R59, R140, R142). That an IMMEDIATE start lies strictly after is the model's own choice,
log entry 11; so are log entries 2, 3, 13. -/
def Obligations.RestEndIdlesYieldsOrGoesOn : Prop :=
  let takesFrom := fun (i : Instr) (s idle : State) (answer : Port → Port) =>
    ∃ w, exec .runRelease { idle with run := { idle.run with state := .idle, active := none, hold := true } } = .next w ∧
      exec i s = .next { w with port := answer s.port }
  let decides := fun (i : Instr) (s v : State) (t : Tick) (answer : Port → Port) =>
    ∀ h p k c, s.activePoint = some (h, p) → p.content.kind = .search k → p.context = some c →
      (((∀ e ∈ s.run.queue, e.marked = false) ∨ k.policy = .suspend ∧ 32 ≤ s.run.queue.length) →
        (¬ s.ChannelsFit p.content →
          ∃ u, exec i s = .next u ∧ AbortedAt v u h p .channelUnfit t ∧ u.port = answer s.port) ∧
        (s.ChannelsFit p.content → s.ScheduleGives p.content.start none →
          (s.RelayHasReset p.content → exec i s = .next { v with
            run := { v.run with state := s.goesOn p.content t }, port := answer s.port }) ∧
          (¬ s.RelayHasReset p.content → exec i s = .next { v with
            run := { v.run with state := .resetWait t s.run.setup.resetWait }, port := answer s.port }))) ∧
      (∀ m ms us, s.run.queue = m :: ms ++ us → (∀ e ∈ m :: ms, e.marked = true) → (∀ e ∈ us, e.marked = false) →
        (k.policy = .suspend → s.run.queue.length < 32 →
          ∃ points, takesFrom i s { v with
              points := points
              run := { v.run with queue := m :: ms ++ { handle := h, marked := false } :: us } } answer ∧
            Table.at? points h = some { p with status := .suspended } ∧
            ∀ n, n ≠ h → Table.at? points n = s.points.at? n) ∧
        (k.policy = .abort →
          ∃ points q r, takesFrom i s { v with points := points, shot := { s.shot with working := none } } answer ∧
            Table.at? points h = some q ∧ (∀ n, n ≠ h → Table.at? points n = s.points.at? n) ∧ p.Posted q r ∧
            r.verdict = .aborted ∧ r.reason = some .preempted ∧ r.operated = [] ∧
            r.search = some { lower := c.lower, upper := c.upper, boundary := none, shotsUsed := c.shotsUsed }));
  (∀ (s : State) (t since : Tick) (interval : Nat) (fault : Option Tick), s.instantAhead t →
    s.run.state = .rest since interval false fault →
    Tick.reached (since + BitVec.ofNat 48 (1000 * interval)) t = true →
    let v := { s with tick := t, gen := s.gen.arrive t }
    (s.run.active = none →
      (s.run.queue = [] → exec (.restEnd t) s = .next { v with
        run := { s.run with state := .idle }, port := { s.port with queueEmpty := true } }) ∧
      (s.run.queue ≠ [] → s.run.hold = true → exec (.restEnd t) s = .next { v with
        run := { s.run with state := .idle } }) ∧
      (s.run.queue ≠ [] → s.run.hold = false → takesFrom (.restEnd t) s v id)) ∧
    (∀ h p, s.activePoint = some (h, p) → s.run.hold = true → exec (.restEnd t) s = .next { v with
      run := { s.run with state := .rest since interval true fault } }) ∧
    (s.run.hold = false → decides (.restEnd t) s v t id)) ∧
  (∀ (s : State) (since : Tick) (interval : Nat) (fault : Option Tick),
    s.run.state = .rest since interval true fault → s.run.hold = true →
    decides .runRelease s { s with run := { s.run with hold := false } } s.tick fun port => port.answered 0 [])

/-! ## The time reference -/

/-- What a pulse does in each lock state: in FREE it begins an acquisition; in ACQUIRING one inside the window
counts and its interval joins, the fourth locking, and one outside restarts; in LOCKED one inside is accepted and
one outside is spurious; in HOLDOVER it regains the lock before or after its predicted edge, or restarts. Where PPS
cannot have risen no pulse is taken (R148 to R153, R158, R177). The model's own choices here: log entries 2, 10, 17,
19, 28. -/
def Obligations.PulsesMoveTheLock : Prop :=
  (∀ (s : State) (t : Tick), Tick.reached s.tick t = true →
    (t = s.time.pps.readAt ∨ s.time.pps.high = true ∧ t = s.time.pps.readAt + 1) →
    exec (.pulse t) s = .next { s with tick := t }) ∧
  ∀ (s : State) (t : Tick), TimeInv s → s.riseAhead t →
    let b := s.time
    let takes := fun (n : Timebase) (stepped : Bool) => ∃ u, exec (.pulse t) s = .next u ∧
      TimebaseMoves s u t { n with pps := { high := true, readAt := t } } stepped
    let restart := { b.atEdge .pulse t true with lock := .acquiring, acquisition := 1, holdoverEntry := none }
    (b.lock = .free → takes { b.atEdge .pulse t false with lock := .acquiring, acquisition := 1 } b.stepsAhead) ∧
    (∀ r, b.reference = some r →
      let gap := Tick.elapsed r t
      let second := 1000000 ≤ gap + b.window ∧ gap ≤ 1000000 + b.window
      let expected := meanOf b.history ≤ gap + b.window ∧ gap ≤ meanOf b.history + b.window
      (b.lock = .acquiring →
        (second → b.acquisition < 3 → takes { b.atEdge .pulse t false with
          history := joined b.history gap, acquisition := b.acquisition + 1 } b.stepsAhead) ∧
        (second → b.acquisition = 3 → takes { b.atEdge .pulse t false with
          history := joined b.history gap, lock := .locked, acquisition := 0, missed := 0 } b.stepsAhead) ∧
        (¬ second → takes restart b.stepsAhead)) ∧
      (b.lock = .locked →
        (expected → takes { b.atEdge .pulse t false with
          missed := 0
          history := if b.referenceKind = .pulse ∧ second then joined b.history gap else b.history } b.stepsAhead) ∧
        (¬ expected → takes { b with spurious := min (b.spurious + 1) 65535 } false)) ∧
      (b.lock = .holdover →
        let predicted := b.referenceKind = .predicted ∧ b.referenceClosed = false ∧ gap ≤ b.window
        (expected → takes { b.atEdge .pulse t false with
          lock := .locked, missed := 0, holdoverEntry := none } b.stepsAhead) ∧
        (¬ expected → predicted → takes { b with
          lock := .locked, missed := 0, holdoverEntry := none
          reference := some t, referenceKind := .pulse, referenceClosed := false } false) ∧
        (¬ expected → ¬ predicted → takes restart b.stepsAhead)))

/-- Windows and limits: the ACQUIRING window that closes empty leads to FREE; the LOCKED one makes a missed edge at
the expected tick, and HOLDOVER at the missed limit; a predicted edge is established at its own tick in HOLDOVER;
and the holdover limit leads to FREE (R149 to R153, R158). That a step of the label is judged by day and second alone is
the model's own choice, log entry 17; so are log entries 2, 10, 19, 32. -/
def Obligations.WindowsAndLimitsMoveTheLock : Prop :=
  ∀ (s : State) (t r : Tick), TimeInv s → Tick.reached s.tick t = true → s.time.reference = some r →
    let b := s.time
    let takes := fun (i : Instr) (n : Timebase) (stepped : Bool) =>
      ∃ u, exec i s = .next u ∧ TimebaseMoves s u t n stepped
    let freed := { b with
      lock := .free, acquisition := 0, reference := none, history := [], holdoverEntry := none, label := none }
    let expected := r + BitVec.ofNat 48 (meanOf b.history)
    (b.lock = .acquiring → Tick.reached (r + BitVec.ofNat 48 (1000000 + b.window + 1)) t = true →
      takes (.acquisitionWindowCloses t) freed false) ∧
    (b.lock = .locked → Tick.reached (expected + BitVec.ofNat 48 (b.window + 1)) t = true →
      (b.missed + 1 < b.missedLimit → takes (.missedEdge t)
        { b.atEdge .missed expected false with missed := b.missed + 1 } b.stepsAhead) ∧
      (b.missed + 1 = b.missedLimit → takes (.missedEdge t)
        { b.atEdge .missed expected false with
          missed := b.missed + 1, lock := .holdover, holdoverEntry := some t } b.stepsAhead)) ∧
    (b.lock = .holdover →
      (Tick.reached expected t = true → takes (.predictedEdge t) (b.atEdge .predicted expected false) b.stepsAhead) ∧
      (∀ entry, b.holdoverEntry = some entry →
        Tick.reached (entry + BitVec.ofNat 48 (1000000 * b.holdoverLimit)) t = true →
        takes (.holdoverLimitElapses t) { freed with missed := 0 } false))

/-- START_WAIT. A second edge labelled with the start second gives the start tick, the next multiple of 20 at or after
its edge tick plus the converted offset, with its skew; one labelled before waits on, one labelled after loses the time.
A pulse gives it in every case; a missed edge not under LOCKED_ONLY; and a missed or predicted edge not where the start
tick is no later than the tick it is established at. A fall to FREE or ACQUIRING loses the time, and under LOCKED_ONLY
one to HOLDOVER, whether an event or TIME_SET brings it, and after the start tick is computed too; edges then do
nothing (R150, R151, R156, R158, R160, R161). The model's own choices here: log entries 2, 3, 17, 28, 32. -/
def Obligations.StartEdgeGivesTheStartTick : Prop :=
  ∀ (s : State) (t : Tick) (h day second offset : Nat) (p : TestPoint) (w : StartWait),
    TimeInv s → Tick.reached s.tick t = true → s.run.state = .startWait w → w.lost = none →
    s.activePoint = some (h, p) → p.content.start = .atTime day second offset → offset ≤ 999999 →
    let b := s.time
    let waits := fun (i : Instr) (v : StartWait) =>
      ∃ u, exec i s = .next u ∧ u.run = { s.run with state := .startWait v }
    let lost := fun i : Instr => waits i { w with lost := some t }
    let judges := fun (i : Instr) (edge : Tick) (fails : Tick → Prop) => ∃ u v, exec i s = .next u ∧
      u.run = { s.run with state := .startWait v } ∧ (u.time.label = none → v = w) ∧
      ∀ l, u.time.label = some l →
        let lead := leadOver (86400 * day + second) (86400 * l.day + l.second)
        let sum := edge.toNat + (1000000 + 2 * (offset * meanOf u.time.history)) / 2000000
        let start := (sum + 19) / 20 * 20
        start - sum ≤ 19 ∧ (0 < lead → v = w) ∧ (lead < 0 → v = { w with lost := some t }) ∧
        (lead = 0 → (fails (BitVec.ofNat 48 start) → v = { w with lost := some t }) ∧
          (¬ fails (BitVec.ofNat 48 start) → v = { w with start := some (BitVec.ofNat 48 start, start - sum) }));
    (∀ r, b.reference = some r →
      let edge := r + BitVec.ofNat 48 (meanOf b.history)
      let inside := meanOf b.history ≤ Tick.elapsed r t + b.window ∧ Tick.elapsed r t ≤ meanOf b.history + b.window
      let after := b.referenceKind = .predicted ∧ b.referenceClosed = false ∧ Tick.elapsed r t ≤ b.window
      let closed := Tick.reached (edge + BitVec.ofNat 48 (b.window + 1)) t = true
      (s.riseAhead t → 2000000 + t.toNat < 2 ^ 48 →
        ((b.lock = .locked ∨ b.lock = .holdover) → inside → w.start = none → judges (.pulse t) t fun _ => False) ∧
        ((b.lock = .locked ∨ b.lock = .holdover) → inside → w.start ≠ none → waits (.pulse t) w) ∧
        (b.lock = .locked → ¬ inside → waits (.pulse t) w) ∧
        (b.lock = .holdover → ¬ inside → after → waits (.pulse t) w) ∧
        (b.lock = .holdover → ¬ inside → ¬ after → lost (.pulse t))) ∧
      (b.lock = .locked → closed → 2000000 + edge.toNat < 2 ^ 48 →
        (b.missed + 1 = b.missedLimit → w.policy = .lockedOnly → lost (.missedEdge t)) ∧
        ((b.missed + 1 < b.missedLimit ∨ w.policy = .holdoverOk) →
          (w.start ≠ none → waits (.missedEdge t) w) ∧
          (w.start = none → judges (.missedEdge t) edge fun start =>
            w.policy = .lockedOnly ∨ Tick.before t start = false))) ∧
      (b.lock = .holdover → Tick.reached edge t = true → 2000000 + edge.toNat < 2 ^ 48 →
        (w.start ≠ none → waits (.predictedEdge t) w) ∧
        (w.start = none → judges (.predictedEdge t) edge fun start => Tick.before t start = false))) ∧
    (∀ entry, b.lock = .holdover → b.holdoverEntry = some entry →
      Tick.reached (entry + BitVec.ofNat 48 (1000000 * b.holdoverLimit)) t = true → lost (.holdoverLimitElapses t)) ∧
    (t = s.tick → ∀ window missed limit : Nat, 20 ≤ window → window ≤ 1000 → (missed = 1 ∨ missed = 4) → 1 ≤ limit →
      limit ≤ 300 →
      let elapsed := ∃ entry, b.holdoverEntry = some entry ∧
        Tick.reached (entry + BitVec.ofNat 48 (1000000 * limit)) t = true
      let i := Instr.timeSet window missed limit
      (b.lock = .locked → missed ≤ b.missed →
        (w.policy = .lockedOnly → lost i) ∧ (w.policy = .holdoverOk → waits i w)) ∧
      (b.lock = .holdover → elapsed → lost i) ∧
      ((b.lock = .locked → b.missed < missed) → (b.lock = .holdover → ¬ elapsed) → waits i w))

/-- A good time message, escaped on the line, is held for the next second edge and counts as discarded one it
replaces. An empty message is ignored; a wrong check, a second of day above 86,399, an open escape or a 25th
character discards the message and counts it, saturating; a framing error and an overlong message do the same to the
one in progress and are ignored where there is none (R154, R155). The model's own choices here: log entries 2, 20.
-/
def Obligations.TimeMessagesAreHeldOrCounted : Prop :=
  ∀ (s : State) (t : Tick), Tick.reached s.tick t = true →
    let b := s.time
    let counted := min (b.discards + 1) 65535
    let becomes := fun (i : Instr) (n : Timebase) => exec i s = .next { s with tick := t, time := n }
    (∀ l : Label, l.day < 65536 → l.second ≤ 86399 → l.quality < 256 →
      becomes (.timeMessage t (escaped l.message)) { b with
        held := some l, receiver := .message, discards := if b.held.isSome then counted else b.discards }) ∧
    becomes (.timeMessage t []) { b with receiver := .message } ∧
    (∀ content : List Byte, 1 ≤ content.length → content.length ≤ 12 →
      (content.length ≠ 8 ∨ valueOf (content.drop 6) ≠ (crcOf (content.take 6)).toNat ∨
        86399 < valueOf ((content.drop 2).take 3)) →
      becomes (.timeMessage t (escaped content)) { b with receiver := .message, discards := counted }) ∧
    (∀ content : List Byte, content.length ≤ 11 →
      becomes (.timeMessage t (escaped content ++ [0x7D])) { b with receiver := .message, discards := counted }) ∧
    (∀ characters : List Byte, 25 ≤ characters.length → (∀ c ∈ characters, c ≠ 0x7E) →
      becomes (.timeMessage t characters) { b with receiver := .message, discards := counted }) ∧
    (∀ i ∈ [Instr.framingError t, .overlongMessage t],
      (b.receiver = .message → becomes i { b with receiver := .ignoring, discards := counted }) ∧
      (b.receiver ≠ .message → becomes i b))

/-! ## Expectations -/

/-- At or beyond the last breakpoint of a characteristic that passed its checks, the expected time is the last
breakpoint's, with the band of R32 around it; a saturated multiple falls here (R30). -/
def Obligations.BeyondTheCurveTheLastTimeHolds : Prop :=
  ∀ (raw : RawCurve) (k : Characteristic) (fault : StateContent) (percent absolute m t : Nat),
    checkCurve raw = some k.content → k.content.breakpoints.getLast? = some (m, t) →
    let multiple := min (1000 * quantityValue k.content.quantity fault / k.content.pickup) 65535
    let hw := max absolute (t * percent / 1000)
    (m ≤ multiple → curveWorking k fault percent absolute =
      .curve multiple k.revision { time := t, low := t - hw, high := t + hw }) ∧
    (multiple = 65535 → m ≤ multiple)

/-- Between the first breakpoint and the last, one segment holds the multiple, and the expected time is the
segment's first time less the drop interpolated and rounded half up; it lies between the segment's two times, and
within the whole curve's (R31). -/
def Obligations.OnTheCurveTheTimeIsInterpolated : Prop :=
  ∀ (raw : RawCurve) (c : CurveContent) (multiple m1 t1 mn tn : Nat),
    checkCurve raw = some c → c.breakpoints.head? = some (m1, t1) → c.breakpoints.getLast? = some (mn, tn) →
    m1 ≤ multiple → multiple < mn →
    ∃ (k m t m' t' : Nat), c.breakpoints[k]? = some (m, t) ∧ c.breakpoints[k + 1]? = some (m', t') ∧
      m ≤ multiple ∧ multiple < m' ∧
      (∀ (j : Nat) (a b : Nat × Nat), c.breakpoints[j]? = some a → c.breakpoints[j + 1]? = some b →
        a.1 ≤ multiple → multiple < b.1 → j = k) ∧
      let product := (t - t') * (multiple - m)
      let q := (2 * product + (m' - m)) / (2 * (m' - m))
      product < 600000000 * 64535 ∧ expectedTime c.breakpoints multiple = some (t - q) ∧
      (multiple = m → q = 0) ∧ (t = t' → q = 0) ∧ q ≤ t - t' ∧
      t' ≤ t - q ∧ t - q ≤ t ∧ tn ≤ t - q ∧ t - q ≤ t1 ∧ 1000 ≤ t - q ∧
      (t - q = t' ↔ 2 * ((t - t') * (m' - multiple)) ≤ m' - m)

/-- What inception forms: nothing for a search, the expectation alone for NONE and NO_TRIP, the band for FIXED, and
for CURVE the multiple and the captured revision, with no expected time below the first breakpoint. PHASE_MAX reads
the largest phase current (R25, R27, R28, R29, R32 to R35, R39). -/
def Obligations.InceptionFormsTheExpectation : Prop :=
  ∀ (s : State) (c : PointContent) (fault : StateContent),
    (∀ k, c.kind = .search k → s.formWorking c fault = none) ∧
    (∀ p a, c.kind = .shot .none p a → s.formWorking c fault = some .unjudged) ∧
    (∀ p a, c.kind = .shot .noTrip p a → s.formWorking c fault = some .noTrip) ∧
    (∀ t p a, c.kind = .shot (.fixed t) p a → let hw := max a (t * p / 1000)
      s.formWorking c fault = some (.fixed { time := t, low := t - hw, high := t + hw })) ∧
    (∀ h p a (raw : RawCurve) (k : Characteristic), c.kind = .shot (.curve h) p a → s.curves.at? h = some k →
      checkCurve raw = some k.content →
      ∃ amps w, s.formWorking c fault = some w ∧ w.multiple? = some (min (1000 * amps / k.content.pickup) 65535) ∧
        w.revision? = some k.revision ∧
        (k.content.quantity = .i1 → amps = fault.settings.i1.amplitude) ∧
        (k.content.quantity = .i2 → amps = fault.settings.i2.amplitude) ∧
        (k.content.quantity = .i3 → amps = fault.settings.i3.amplitude) ∧
        (k.content.quantity = .ix → amps = fault.settings.ix.amplitude) ∧
        (k.content.quantity = .phaseMax → (fault.settings.i1.amplitude ≤ amps ∧ fault.settings.i2.amplitude ≤ amps ∧
          fault.settings.i3.amplitude ≤ amps) ∧ (amps = fault.settings.i1.amplitude ∨
            amps = fault.settings.i2.amplitude ∨ amps = fault.settings.i3.amplitude)) ∧
        (∀ m t, k.content.breakpoints.head? = some (m, t) →
          (w.expected? = none ↔ min (1000 * amps / k.content.pickup) 65535 < m)) ∧
        ∀ e, w.expected? = some e → e.low = e.time - max a (e.time * p / 1000) ∧
          e.high = e.time + max a (e.time * p / 1000))

/-! ## Invariants -/

/-- Every step keeps the link's invariant: READY holds no response and no request, WORKING a request, ANSWER one
whole response frame (R162, R165, R166). -/
def Obligations.LinkInvariantIsKept : Prop := KeptByStep LinkInv

/-- Every step keeps the tables in their ranges, the tags unique, every reference count at the number of references
and every record named present (R1, R9, R14, R20). -/
def Obligations.ReferenceInvariantIsKept : Prop := KeptByStep ReferenceInv

/-- Every step keeps the queue, the statuses and the search contexts in agreement: at most 32 distinct handles,
marked entries first, a handle queued exactly when QUEUED or SUSPENDED, at most one ACTIVE test point, and every
ACTIVE or SUSPENDED search with L below U and shots remaining (R41, R47, R133). -/
def Obligations.RunInvariantIsKept : Prop := KeptByStep RunInv

/-- Every step keeps every result that is not STALE at the revision its characteristic has now (R24, R36). -/
def Obligations.RevisionInvariantIsKept : Prop :=
  KeptByStep fun s => RunInv s ∧ ReferenceInv s ∧ RevisionInv s

/-- Every step keeps the outputs at rest whenever no state is in play, the channel and input records in their
ranges, and configurations pending only while PLAYING (R75, R76, R81, R83, R88, R92, R95, R111). -/
def Obligations.UnitInvariantIsKept : Prop := KeptByStep UnitInv

/-- Every step keeps the Timebase in its ranges and each lock state with what it holds (R149 to R153, R156). -/
def Obligations.TimeInvariantIsKept : Prop := KeptByStep TimeInv

/-- Every step keeps every result consistent: a reason exactly when ABORTED, no doubt flag on PASS, SHORT_WINDOW
only on an INCONCLUSIVE result without a measured time, the run count at most 255 (R121, R122, R123, R126). -/
def Obligations.ResultInvariantIsKept : Prop := KeptByStep ResultInv
end

