-- ==== Sys2Proof/Laws/Lines.lean ====
section
/-! SUPPORT. Reading back the values kept for channels and inputs. -/

namespace Sys2Proof

variable {α β : Type}

@[simp] theorem PerChannel.get_of (f : Chan → α) (c : Chan) : (PerChannel.of f).get c = f c := by cases c <;> rfl

@[simp] theorem PerChannel.get_map (f : α → β) (p : PerChannel α) (c : Chan) : (p.map f).get c = f (p.get c) := by
  simp [PerChannel.map]

@[simp] theorem PerChannel.get_byKind (v i : α) (c : Chan) :
    (PerChannel.byKind v i).get c = if c.isVoltage then v else i := by cases c <;> rfl

theorem PerChannel.get_update (p : PerChannel α) (c d : Chan) (f : α → α) :
    (p.update c f).get d = if c = d then f (p.get d) else p.get d := by
  cases c <;> cases d <;> rfl

theorem PerChannel.ext_get {p q : PerChannel α} (h : ∀ c, p.get c = q.get c) : p = q := by
  cases p; cases q
  simpa [PerChannel.get] using
    And.intro (h .v1) ⟨h .v2, h .v3, h .vx, h .i1, h .i2, h .i3, h .ix⟩

@[simp] theorem PerInput.get_of (f : Inp → α) (n : Inp) : (PerInput.of f).get n = f n := by cases n <;> rfl

@[simp] theorem PerInput.get_map (f : α → β) (p : PerInput α) (n : Inp) : (p.map f).get n = f (p.get n) := by
  simp [PerInput.map]

theorem PerInput.get_update (p : PerInput α) (n m : Inp) (f : α → α) :
    (p.update n f).get m = if n = m then f (p.get m) else p.get m := by
  cases n <;> cases m <;> rfl

theorem PerInput.ext_get {p q : PerInput α} (h : ∀ n, p.get n = q.get n) : p = q := by
  cases p; cases q
  simpa [PerInput.get] using
    And.intro (h .bi1) ⟨h .bi2, h .bi3, h .bi4, h .bi5, h .bi6, h .bi7, h .bi8, h .bi9, h .bi10⟩

/-- Every channel is listed. -/
@[simp] theorem Chan.mem_all (c : Chan) : c ∈ Chan.all := by cases c <;> decide

/-- Every input is listed. -/
@[simp] theorem Inp.mem_all (n : Inp) : n ∈ Inp.all := by cases n <;> decide

/-- A channel number names its channel. -/
@[simp] theorem Chan.ofNumber_number (c : Chan) : Chan.ofNumber c.number = some c := by cases c <;> rfl

/-- An input number names its input. -/
@[simp] theorem Inp.ofNumber_number (n : Inp) : Inp.ofNumber n.number = some n := by cases n <;> rfl

/-- The numbers that name no channel are 0 and those above 8. -/
theorem Chan.ofNumber_eq_none (k : Nat) : Chan.ofNumber k = none ↔ k = 0 ∨ 8 < k := by
  rcases k with _ | _ | _ | _ | _ | _ | _ | _ | _ | k <;> simp [Chan.ofNumber]

/-- The numbers that name no input are 0 and those above 10. -/
theorem Inp.ofNumber_eq_none (k : Nat) : Inp.ofNumber k = none ↔ k = 0 ∨ 10 < k := by
  rcases k with _ | _ | _ | _ | _ | _ | _ | _ | _ | _ | _ | k <;> simp [Inp.ofNumber]

end Sys2Proof
end

