-- ==== Sys2Proof/Laws/State.lean ====
section
/-! SUPPORT. What each named update of the state leaves alone, one lemma per field per update, and what it sets. -/

namespace Sys2Proof.Machine

/-! ### respond -/

@[simp] theorem State.respond_tick (s : State) (code : ResultCode) (payload : List Byte) : (s.respond code payload).tick = s.tick := rfl
@[simp] theorem State.respond_level (s : State) (code : ResultCode) (payload : List Byte) : (s.respond code payload).level = s.level := rfl
@[simp] theorem State.respond_points (s : State) (code : ResultCode) (payload : List Byte) : (s.respond code payload).points = s.points := rfl
@[simp] theorem State.respond_states (s : State) (code : ResultCode) (payload : List Byte) : (s.respond code payload).states = s.states := rfl
@[simp] theorem State.respond_curves (s : State) (code : ResultCode) (payload : List Byte) : (s.respond code payload).curves = s.curves := rfl
@[simp] theorem State.respond_run (s : State) (code : ResultCode) (payload : List Byte) : (s.respond code payload).run = s.run := rfl
@[simp] theorem State.respond_gen (s : State) (code : ResultCode) (payload : List Byte) : (s.respond code payload).gen = s.gen := rfl
@[simp] theorem State.respond_channels (s : State) (code : ResultCode) (payload : List Byte) : (s.respond code payload).channels = s.channels := rfl
@[simp] theorem State.respond_inputs (s : State) (code : ResultCode) (payload : List Byte) : (s.respond code payload).inputs = s.inputs := rfl
@[simp] theorem State.respond_idleOutputs (s : State) (code : ResultCode) (payload : List Byte) : (s.respond code payload).idleOutputs = s.idleOutputs := rfl
@[simp] theorem State.respond_time (s : State) (code : ResultCode) (payload : List Byte) : (s.respond code payload).time = s.time := rfl
@[simp] theorem State.respond_shot (s : State) (code : ResultCode) (payload : List Byte) : (s.respond code payload).shot = s.shot := rfl
@[simp] theorem State.respond_pending (s : State) (code : ResultCode) (payload : List Byte) : (s.respond code payload).pending = s.pending := rfl

/-! ### accept -/

@[simp] theorem State.accept_tick (s : State) (payload : List Byte) : (s.accept payload).tick = s.tick := rfl
@[simp] theorem State.accept_level (s : State) (payload : List Byte) : (s.accept payload).level = s.level := rfl
@[simp] theorem State.accept_points (s : State) (payload : List Byte) : (s.accept payload).points = s.points := rfl
@[simp] theorem State.accept_states (s : State) (payload : List Byte) : (s.accept payload).states = s.states := rfl
@[simp] theorem State.accept_curves (s : State) (payload : List Byte) : (s.accept payload).curves = s.curves := rfl
@[simp] theorem State.accept_run (s : State) (payload : List Byte) : (s.accept payload).run = s.run := rfl
@[simp] theorem State.accept_gen (s : State) (payload : List Byte) : (s.accept payload).gen = s.gen := rfl
@[simp] theorem State.accept_channels (s : State) (payload : List Byte) : (s.accept payload).channels = s.channels := rfl
@[simp] theorem State.accept_inputs (s : State) (payload : List Byte) : (s.accept payload).inputs = s.inputs := rfl
@[simp] theorem State.accept_idleOutputs (s : State) (payload : List Byte) : (s.accept payload).idleOutputs = s.idleOutputs := rfl
@[simp] theorem State.accept_time (s : State) (payload : List Byte) : (s.accept payload).time = s.time := rfl
@[simp] theorem State.accept_shot (s : State) (payload : List Byte) : (s.accept payload).shot = s.shot := rfl
@[simp] theorem State.accept_pending (s : State) (payload : List Byte) : (s.accept payload).pending = s.pending := rfl

/-! ### refuse -/

@[simp] theorem State.refuse_tick (s : State) (code : ResultCode) : (s.refuse code).tick = s.tick := rfl
@[simp] theorem State.refuse_level (s : State) (code : ResultCode) : (s.refuse code).level = s.level := rfl
@[simp] theorem State.refuse_points (s : State) (code : ResultCode) : (s.refuse code).points = s.points := rfl
@[simp] theorem State.refuse_states (s : State) (code : ResultCode) : (s.refuse code).states = s.states := rfl
@[simp] theorem State.refuse_curves (s : State) (code : ResultCode) : (s.refuse code).curves = s.curves := rfl
@[simp] theorem State.refuse_run (s : State) (code : ResultCode) : (s.refuse code).run = s.run := rfl
@[simp] theorem State.refuse_gen (s : State) (code : ResultCode) : (s.refuse code).gen = s.gen := rfl
@[simp] theorem State.refuse_channels (s : State) (code : ResultCode) : (s.refuse code).channels = s.channels := rfl
@[simp] theorem State.refuse_inputs (s : State) (code : ResultCode) : (s.refuse code).inputs = s.inputs := rfl
@[simp] theorem State.refuse_idleOutputs (s : State) (code : ResultCode) : (s.refuse code).idleOutputs = s.idleOutputs := rfl
@[simp] theorem State.refuse_time (s : State) (code : ResultCode) : (s.refuse code).time = s.time := rfl
@[simp] theorem State.refuse_shot (s : State) (code : ResultCode) : (s.refuse code).shot = s.shot := rfl
@[simp] theorem State.refuse_pending (s : State) (code : ResultCode) : (s.refuse code).pending = s.pending := rfl

/-! ### raiseQueueEmpty -/

@[simp] theorem State.raiseQueueEmpty_tick (s : State) : (s.raiseQueueEmpty).tick = s.tick := rfl
@[simp] theorem State.raiseQueueEmpty_level (s : State) : (s.raiseQueueEmpty).level = s.level := rfl
@[simp] theorem State.raiseQueueEmpty_points (s : State) : (s.raiseQueueEmpty).points = s.points := rfl
@[simp] theorem State.raiseQueueEmpty_states (s : State) : (s.raiseQueueEmpty).states = s.states := rfl
@[simp] theorem State.raiseQueueEmpty_curves (s : State) : (s.raiseQueueEmpty).curves = s.curves := rfl
@[simp] theorem State.raiseQueueEmpty_run (s : State) : (s.raiseQueueEmpty).run = s.run := rfl
@[simp] theorem State.raiseQueueEmpty_gen (s : State) : (s.raiseQueueEmpty).gen = s.gen := rfl
@[simp] theorem State.raiseQueueEmpty_channels (s : State) : (s.raiseQueueEmpty).channels = s.channels := rfl
@[simp] theorem State.raiseQueueEmpty_inputs (s : State) : (s.raiseQueueEmpty).inputs = s.inputs := rfl
@[simp] theorem State.raiseQueueEmpty_idleOutputs (s : State) : (s.raiseQueueEmpty).idleOutputs = s.idleOutputs := rfl
@[simp] theorem State.raiseQueueEmpty_time (s : State) : (s.raiseQueueEmpty).time = s.time := rfl
@[simp] theorem State.raiseQueueEmpty_shot (s : State) : (s.raiseQueueEmpty).shot = s.shot := rfl
@[simp] theorem State.raiseQueueEmpty_pending (s : State) : (s.raiseQueueEmpty).pending = s.pending := rfl

/-! ### raiseTime -/

@[simp] theorem State.raiseTime_tick (s : State) : (s.raiseTime).tick = s.tick := rfl
@[simp] theorem State.raiseTime_level (s : State) : (s.raiseTime).level = s.level := rfl
@[simp] theorem State.raiseTime_points (s : State) : (s.raiseTime).points = s.points := rfl
@[simp] theorem State.raiseTime_states (s : State) : (s.raiseTime).states = s.states := rfl
@[simp] theorem State.raiseTime_curves (s : State) : (s.raiseTime).curves = s.curves := rfl
@[simp] theorem State.raiseTime_run (s : State) : (s.raiseTime).run = s.run := rfl
@[simp] theorem State.raiseTime_gen (s : State) : (s.raiseTime).gen = s.gen := rfl
@[simp] theorem State.raiseTime_channels (s : State) : (s.raiseTime).channels = s.channels := rfl
@[simp] theorem State.raiseTime_inputs (s : State) : (s.raiseTime).inputs = s.inputs := rfl
@[simp] theorem State.raiseTime_idleOutputs (s : State) : (s.raiseTime).idleOutputs = s.idleOutputs := rfl
@[simp] theorem State.raiseTime_time (s : State) : (s.raiseTime).time = s.time := rfl
@[simp] theorem State.raiseTime_shot (s : State) : (s.raiseTime).shot = s.shot := rfl
@[simp] theorem State.raiseTime_pending (s : State) : (s.raiseTime).pending = s.pending := rfl

/-! ### raiseChannelIf -/

@[simp] theorem State.raiseChannelIf_tick (s : State) (b : Bool) : (s.raiseChannelIf b).tick = s.tick := rfl
@[simp] theorem State.raiseChannelIf_level (s : State) (b : Bool) : (s.raiseChannelIf b).level = s.level := rfl
@[simp] theorem State.raiseChannelIf_points (s : State) (b : Bool) : (s.raiseChannelIf b).points = s.points := rfl
@[simp] theorem State.raiseChannelIf_states (s : State) (b : Bool) : (s.raiseChannelIf b).states = s.states := rfl
@[simp] theorem State.raiseChannelIf_curves (s : State) (b : Bool) : (s.raiseChannelIf b).curves = s.curves := rfl
@[simp] theorem State.raiseChannelIf_run (s : State) (b : Bool) : (s.raiseChannelIf b).run = s.run := rfl
@[simp] theorem State.raiseChannelIf_gen (s : State) (b : Bool) : (s.raiseChannelIf b).gen = s.gen := rfl
@[simp] theorem State.raiseChannelIf_channels (s : State) (b : Bool) : (s.raiseChannelIf b).channels = s.channels := rfl
@[simp] theorem State.raiseChannelIf_inputs (s : State) (b : Bool) : (s.raiseChannelIf b).inputs = s.inputs := rfl
@[simp] theorem State.raiseChannelIf_idleOutputs (s : State) (b : Bool) : (s.raiseChannelIf b).idleOutputs = s.idleOutputs := rfl
@[simp] theorem State.raiseChannelIf_time (s : State) (b : Bool) : (s.raiseChannelIf b).time = s.time := rfl
@[simp] theorem State.raiseChannelIf_shot (s : State) (b : Bool) : (s.raiseChannelIf b).shot = s.shot := rfl
@[simp] theorem State.raiseChannelIf_pending (s : State) (b : Bool) : (s.raiseChannelIf b).pending = s.pending := rfl

/-! ### enterState -/

@[simp] theorem State.enterState_tick (s : State) (h : Nat) (c : StateContent) (t : Tick) : (s.enterState h c t).tick = s.tick := rfl
@[simp] theorem State.enterState_level (s : State) (h : Nat) (c : StateContent) (t : Tick) : (s.enterState h c t).level = s.level := rfl
@[simp] theorem State.enterState_points (s : State) (h : Nat) (c : StateContent) (t : Tick) : (s.enterState h c t).points = s.points := rfl
@[simp] theorem State.enterState_states (s : State) (h : Nat) (c : StateContent) (t : Tick) : (s.enterState h c t).states = s.states := rfl
@[simp] theorem State.enterState_curves (s : State) (h : Nat) (c : StateContent) (t : Tick) : (s.enterState h c t).curves = s.curves := rfl
@[simp] theorem State.enterState_run (s : State) (h : Nat) (c : StateContent) (t : Tick) : (s.enterState h c t).run = s.run := rfl
@[simp] theorem State.enterState_inputs (s : State) (h : Nat) (c : StateContent) (t : Tick) : (s.enterState h c t).inputs = s.inputs := rfl
@[simp] theorem State.enterState_idleOutputs (s : State) (h : Nat) (c : StateContent) (t : Tick) : (s.enterState h c t).idleOutputs = s.idleOutputs := rfl
@[simp] theorem State.enterState_time (s : State) (h : Nat) (c : StateContent) (t : Tick) : (s.enterState h c t).time = s.time := rfl
@[simp] theorem State.enterState_shot (s : State) (h : Nat) (c : StateContent) (t : Tick) : (s.enterState h c t).shot = s.shot := rfl
@[simp] theorem State.enterState_port (s : State) (h : Nat) (c : StateContent) (t : Tick) : (s.enterState h c t).port = s.port := rfl
@[simp] theorem State.enterState_pending (s : State) (h : Nat) (c : StateContent) (t : Tick) : (s.enterState h c t).pending = s.pending := rfl

/-! ### toRest -/

@[simp] theorem State.toRest_tick (s : State) : (s.toRest).tick = s.tick := rfl
@[simp] theorem State.toRest_level (s : State) : (s.toRest).level = s.level := rfl
@[simp] theorem State.toRest_points (s : State) : (s.toRest).points = s.points := rfl
@[simp] theorem State.toRest_states (s : State) : (s.toRest).states = s.states := rfl
@[simp] theorem State.toRest_curves (s : State) : (s.toRest).curves = s.curves := rfl
@[simp] theorem State.toRest_run (s : State) : (s.toRest).run = s.run := rfl
@[simp] theorem State.toRest_inputs (s : State) : (s.toRest).inputs = s.inputs := rfl
@[simp] theorem State.toRest_idleOutputs (s : State) : (s.toRest).idleOutputs = s.idleOutputs := rfl
@[simp] theorem State.toRest_time (s : State) : (s.toRest).time = s.time := rfl
@[simp] theorem State.toRest_shot (s : State) : (s.toRest).shot = s.shot := rfl
@[simp] theorem State.toRest_port (s : State) : (s.toRest).port = s.port := rfl
@[simp] theorem State.toRest_pending (s : State) : (s.toRest).pending = s.pending := rfl

/-! ### handNotes -/

@[simp] theorem State.handNotes_tick (s : State) (t : Tick) : (s.handNotes t).tick = s.tick := rfl
@[simp] theorem State.handNotes_level (s : State) (t : Tick) : (s.handNotes t).level = s.level := rfl
@[simp] theorem State.handNotes_points (s : State) (t : Tick) : (s.handNotes t).points = s.points := rfl
@[simp] theorem State.handNotes_states (s : State) (t : Tick) : (s.handNotes t).states = s.states := rfl
@[simp] theorem State.handNotes_curves (s : State) (t : Tick) : (s.handNotes t).curves = s.curves := rfl
@[simp] theorem State.handNotes_run (s : State) (t : Tick) : (s.handNotes t).run = s.run := rfl
@[simp] theorem State.handNotes_gen (s : State) (t : Tick) : (s.handNotes t).gen = s.gen := rfl
@[simp] theorem State.handNotes_channels (s : State) (t : Tick) : (s.handNotes t).channels = s.channels := rfl
@[simp] theorem State.handNotes_inputs (s : State) (t : Tick) : (s.handNotes t).inputs = s.inputs := rfl
@[simp] theorem State.handNotes_idleOutputs (s : State) (t : Tick) : (s.handNotes t).idleOutputs = s.idleOutputs := rfl
@[simp] theorem State.handNotes_time (s : State) (t : Tick) : (s.handNotes t).time = s.time := rfl
@[simp] theorem State.handNotes_port (s : State) (t : Tick) : (s.handNotes t).port = s.port := rfl
@[simp] theorem State.handNotes_pending (s : State) (t : Tick) : (s.handNotes t).pending = s.pending := rfl

/-! ### applyPending -/

@[simp] theorem State.applyPending_tick (s : State) : (s.applyPending).tick = s.tick := rfl
@[simp] theorem State.applyPending_level (s : State) : (s.applyPending).level = s.level := rfl
@[simp] theorem State.applyPending_points (s : State) : (s.applyPending).points = s.points := rfl
@[simp] theorem State.applyPending_states (s : State) : (s.applyPending).states = s.states := rfl
@[simp] theorem State.applyPending_curves (s : State) : (s.applyPending).curves = s.curves := rfl
@[simp] theorem State.applyPending_run (s : State) : (s.applyPending).run = s.run := rfl
@[simp] theorem State.applyPending_gen (s : State) : (s.applyPending).gen = s.gen := rfl
@[simp] theorem State.applyPending_idleOutputs (s : State) : (s.applyPending).idleOutputs = s.idleOutputs := rfl
@[simp] theorem State.applyPending_time (s : State) : (s.applyPending).time = s.time := rfl
@[simp] theorem State.applyPending_shot (s : State) : (s.applyPending).shot = s.shot := rfl
@[simp] theorem State.applyPending_pending (s : State) : (s.applyPending).pending = s.pending := rfl

/-! ### changePoint -/

@[simp] theorem State.changePoint_tick (s : State) (h : Nat) (f : TestPoint → TestPoint) : (s.changePoint h f).tick = s.tick := rfl
@[simp] theorem State.changePoint_level (s : State) (h : Nat) (f : TestPoint → TestPoint) : (s.changePoint h f).level = s.level := rfl
@[simp] theorem State.changePoint_states (s : State) (h : Nat) (f : TestPoint → TestPoint) : (s.changePoint h f).states = s.states := rfl
@[simp] theorem State.changePoint_curves (s : State) (h : Nat) (f : TestPoint → TestPoint) : (s.changePoint h f).curves = s.curves := rfl
@[simp] theorem State.changePoint_run (s : State) (h : Nat) (f : TestPoint → TestPoint) : (s.changePoint h f).run = s.run := rfl
@[simp] theorem State.changePoint_gen (s : State) (h : Nat) (f : TestPoint → TestPoint) : (s.changePoint h f).gen = s.gen := rfl
@[simp] theorem State.changePoint_channels (s : State) (h : Nat) (f : TestPoint → TestPoint) : (s.changePoint h f).channels = s.channels := rfl
@[simp] theorem State.changePoint_inputs (s : State) (h : Nat) (f : TestPoint → TestPoint) : (s.changePoint h f).inputs = s.inputs := rfl
@[simp] theorem State.changePoint_idleOutputs (s : State) (h : Nat) (f : TestPoint → TestPoint) : (s.changePoint h f).idleOutputs = s.idleOutputs := rfl
@[simp] theorem State.changePoint_time (s : State) (h : Nat) (f : TestPoint → TestPoint) : (s.changePoint h f).time = s.time := rfl
@[simp] theorem State.changePoint_shot (s : State) (h : Nat) (f : TestPoint → TestPoint) : (s.changePoint h f).shot = s.shot := rfl
@[simp] theorem State.changePoint_port (s : State) (h : Nat) (f : TestPoint → TestPoint) : (s.changePoint h f).port = s.port := rfl
@[simp] theorem State.changePoint_pending (s : State) (h : Nat) (f : TestPoint → TestPoint) : (s.changePoint h f).pending = s.pending := rfl

/-! ### addReferences -/

@[simp] theorem State.addReferences_tick (s : State) (c : PointContent) : (s.addReferences c).tick = s.tick := rfl
@[simp] theorem State.addReferences_level (s : State) (c : PointContent) : (s.addReferences c).level = s.level := rfl
@[simp] theorem State.addReferences_points (s : State) (c : PointContent) : (s.addReferences c).points = s.points := rfl
@[simp] theorem State.addReferences_run (s : State) (c : PointContent) : (s.addReferences c).run = s.run := rfl
@[simp] theorem State.addReferences_gen (s : State) (c : PointContent) : (s.addReferences c).gen = s.gen := rfl
@[simp] theorem State.addReferences_channels (s : State) (c : PointContent) : (s.addReferences c).channels = s.channels := rfl
@[simp] theorem State.addReferences_inputs (s : State) (c : PointContent) : (s.addReferences c).inputs = s.inputs := rfl
@[simp] theorem State.addReferences_idleOutputs (s : State) (c : PointContent) : (s.addReferences c).idleOutputs = s.idleOutputs := rfl
@[simp] theorem State.addReferences_time (s : State) (c : PointContent) : (s.addReferences c).time = s.time := rfl
@[simp] theorem State.addReferences_shot (s : State) (c : PointContent) : (s.addReferences c).shot = s.shot := rfl
@[simp] theorem State.addReferences_port (s : State) (c : PointContent) : (s.addReferences c).port = s.port := rfl
@[simp] theorem State.addReferences_pending (s : State) (c : PointContent) : (s.addReferences c).pending = s.pending := rfl

/-! ### removeReferences -/

@[simp] theorem State.removeReferences_tick (s : State) (c : PointContent) : (s.removeReferences c).tick = s.tick := rfl
@[simp] theorem State.removeReferences_level (s : State) (c : PointContent) : (s.removeReferences c).level = s.level := rfl
@[simp] theorem State.removeReferences_points (s : State) (c : PointContent) : (s.removeReferences c).points = s.points := rfl
@[simp] theorem State.removeReferences_run (s : State) (c : PointContent) : (s.removeReferences c).run = s.run := rfl
@[simp] theorem State.removeReferences_gen (s : State) (c : PointContent) : (s.removeReferences c).gen = s.gen := rfl
@[simp] theorem State.removeReferences_channels (s : State) (c : PointContent) : (s.removeReferences c).channels = s.channels := rfl
@[simp] theorem State.removeReferences_inputs (s : State) (c : PointContent) : (s.removeReferences c).inputs = s.inputs := rfl
@[simp] theorem State.removeReferences_idleOutputs (s : State) (c : PointContent) : (s.removeReferences c).idleOutputs = s.idleOutputs := rfl
@[simp] theorem State.removeReferences_time (s : State) (c : PointContent) : (s.removeReferences c).time = s.time := rfl
@[simp] theorem State.removeReferences_shot (s : State) (c : PointContent) : (s.removeReferences c).shot = s.shot := rfl
@[simp] theorem State.removeReferences_port (s : State) (c : PointContent) : (s.removeReferences c).port = s.port := rfl
@[simp] theorem State.removeReferences_pending (s : State) (c : PointContent) : (s.removeReferences c).pending = s.pending := rfl

/-! ### postActive -/

@[simp] theorem State.postActive_tick (s : State) (h : Nat) (r : Result) : (s.postActive h r).tick = s.tick := rfl
@[simp] theorem State.postActive_level (s : State) (h : Nat) (r : Result) : (s.postActive h r).level = s.level := rfl
@[simp] theorem State.postActive_states (s : State) (h : Nat) (r : Result) : (s.postActive h r).states = s.states := rfl
@[simp] theorem State.postActive_curves (s : State) (h : Nat) (r : Result) : (s.postActive h r).curves = s.curves := rfl
@[simp] theorem State.postActive_gen (s : State) (h : Nat) (r : Result) : (s.postActive h r).gen = s.gen := rfl
@[simp] theorem State.postActive_channels (s : State) (h : Nat) (r : Result) : (s.postActive h r).channels = s.channels := rfl
@[simp] theorem State.postActive_inputs (s : State) (h : Nat) (r : Result) : (s.postActive h r).inputs = s.inputs := rfl
@[simp] theorem State.postActive_idleOutputs (s : State) (h : Nat) (r : Result) : (s.postActive h r).idleOutputs = s.idleOutputs := rfl
@[simp] theorem State.postActive_time (s : State) (h : Nat) (r : Result) : (s.postActive h r).time = s.time := rfl
@[simp] theorem State.postActive_port (s : State) (h : Nat) (r : Result) : (s.postActive h r).port = s.port := rfl
@[simp] theorem State.postActive_pending (s : State) (h : Nat) (r : Result) : (s.postActive h r).pending = s.pending := rfl

/-! ### setRun -/

@[simp] theorem State.setRun_tick (s : State) (r : RunState) : (s.setRun r).tick = s.tick := rfl
@[simp] theorem State.setRun_level (s : State) (r : RunState) : (s.setRun r).level = s.level := rfl
@[simp] theorem State.setRun_points (s : State) (r : RunState) : (s.setRun r).points = s.points := rfl
@[simp] theorem State.setRun_states (s : State) (r : RunState) : (s.setRun r).states = s.states := rfl
@[simp] theorem State.setRun_curves (s : State) (r : RunState) : (s.setRun r).curves = s.curves := rfl
@[simp] theorem State.setRun_gen (s : State) (r : RunState) : (s.setRun r).gen = s.gen := rfl
@[simp] theorem State.setRun_channels (s : State) (r : RunState) : (s.setRun r).channels = s.channels := rfl
@[simp] theorem State.setRun_inputs (s : State) (r : RunState) : (s.setRun r).inputs = s.inputs := rfl
@[simp] theorem State.setRun_idleOutputs (s : State) (r : RunState) : (s.setRun r).idleOutputs = s.idleOutputs := rfl
@[simp] theorem State.setRun_time (s : State) (r : RunState) : (s.setRun r).time = s.time := rfl
@[simp] theorem State.setRun_shot (s : State) (r : RunState) : (s.setRun r).shot = s.shot := rfl
@[simp] theorem State.setRun_port (s : State) (r : RunState) : (s.setRun r).port = s.port := rfl
@[simp] theorem State.setRun_pending (s : State) (r : RunState) : (s.setRun r).pending = s.pending := rfl

/-! ### enterRest -/

@[simp] theorem State.enterRest_tick (s : State) (t : Tick) (f : Option Tick) : (s.enterRest t f).tick = s.tick := rfl
@[simp] theorem State.enterRest_level (s : State) (t : Tick) (f : Option Tick) : (s.enterRest t f).level = s.level := rfl
@[simp] theorem State.enterRest_points (s : State) (t : Tick) (f : Option Tick) : (s.enterRest t f).points = s.points := rfl
@[simp] theorem State.enterRest_states (s : State) (t : Tick) (f : Option Tick) : (s.enterRest t f).states = s.states := rfl
@[simp] theorem State.enterRest_curves (s : State) (t : Tick) (f : Option Tick) : (s.enterRest t f).curves = s.curves := rfl
@[simp] theorem State.enterRest_gen (s : State) (t : Tick) (f : Option Tick) : (s.enterRest t f).gen = s.gen := rfl
@[simp] theorem State.enterRest_channels (s : State) (t : Tick) (f : Option Tick) : (s.enterRest t f).channels = s.channels := rfl
@[simp] theorem State.enterRest_inputs (s : State) (t : Tick) (f : Option Tick) : (s.enterRest t f).inputs = s.inputs := rfl
@[simp] theorem State.enterRest_idleOutputs (s : State) (t : Tick) (f : Option Tick) : (s.enterRest t f).idleOutputs = s.idleOutputs := rfl
@[simp] theorem State.enterRest_time (s : State) (t : Tick) (f : Option Tick) : (s.enterRest t f).time = s.time := rfl
@[simp] theorem State.enterRest_shot (s : State) (t : Tick) (f : Option Tick) : (s.enterRest t f).shot = s.shot := rfl
@[simp] theorem State.enterRest_port (s : State) (t : Tick) (f : Option Tick) : (s.enterRest t f).port = s.port := rfl
@[simp] theorem State.enterRest_pending (s : State) (t : Tick) (f : Option Tick) : (s.enterRest t f).pending = s.pending := rfl

/-! ### inception -/

@[simp] theorem State.inception_tick (s : State) (c : PointContent) (k : StateContent) (t : Tick) : (s.inception c k t).tick = s.tick := rfl
@[simp] theorem State.inception_level (s : State) (c : PointContent) (k : StateContent) (t : Tick) : (s.inception c k t).level = s.level := rfl
@[simp] theorem State.inception_points (s : State) (c : PointContent) (k : StateContent) (t : Tick) : (s.inception c k t).points = s.points := rfl
@[simp] theorem State.inception_states (s : State) (c : PointContent) (k : StateContent) (t : Tick) : (s.inception c k t).states = s.states := rfl
@[simp] theorem State.inception_curves (s : State) (c : PointContent) (k : StateContent) (t : Tick) : (s.inception c k t).curves = s.curves := rfl
@[simp] theorem State.inception_run (s : State) (c : PointContent) (k : StateContent) (t : Tick) : (s.inception c k t).run = s.run := rfl
@[simp] theorem State.inception_gen (s : State) (c : PointContent) (k : StateContent) (t : Tick) : (s.inception c k t).gen = s.gen := rfl
@[simp] theorem State.inception_channels (s : State) (c : PointContent) (k : StateContent) (t : Tick) : (s.inception c k t).channels = s.channels := rfl
@[simp] theorem State.inception_inputs (s : State) (c : PointContent) (k : StateContent) (t : Tick) : (s.inception c k t).inputs = s.inputs := rfl
@[simp] theorem State.inception_idleOutputs (s : State) (c : PointContent) (k : StateContent) (t : Tick) : (s.inception c k t).idleOutputs = s.idleOutputs := rfl
@[simp] theorem State.inception_time (s : State) (c : PointContent) (k : StateContent) (t : Tick) : (s.inception c k t).time = s.time := rfl
@[simp] theorem State.inception_port (s : State) (c : PointContent) (k : StateContent) (t : Tick) : (s.inception c k t).port = s.port := rfl
@[simp] theorem State.inception_pending (s : State) (c : PointContent) (k : StateContent) (t : Tick) : (s.inception c k t).pending = s.pending := rfl

/-! ### noteEntry -/

@[simp] theorem State.noteEntry_tick (s : State) (k : StateContent) (t : Tick) : (s.noteEntry k t).tick = s.tick := rfl
@[simp] theorem State.noteEntry_level (s : State) (k : StateContent) (t : Tick) : (s.noteEntry k t).level = s.level := rfl
@[simp] theorem State.noteEntry_points (s : State) (k : StateContent) (t : Tick) : (s.noteEntry k t).points = s.points := rfl
@[simp] theorem State.noteEntry_states (s : State) (k : StateContent) (t : Tick) : (s.noteEntry k t).states = s.states := rfl
@[simp] theorem State.noteEntry_curves (s : State) (k : StateContent) (t : Tick) : (s.noteEntry k t).curves = s.curves := rfl
@[simp] theorem State.noteEntry_run (s : State) (k : StateContent) (t : Tick) : (s.noteEntry k t).run = s.run := rfl
@[simp] theorem State.noteEntry_gen (s : State) (k : StateContent) (t : Tick) : (s.noteEntry k t).gen = s.gen := rfl
@[simp] theorem State.noteEntry_channels (s : State) (k : StateContent) (t : Tick) : (s.noteEntry k t).channels = s.channels := rfl
@[simp] theorem State.noteEntry_inputs (s : State) (k : StateContent) (t : Tick) : (s.noteEntry k t).inputs = s.inputs := rfl
@[simp] theorem State.noteEntry_idleOutputs (s : State) (k : StateContent) (t : Tick) : (s.noteEntry k t).idleOutputs = s.idleOutputs := rfl
@[simp] theorem State.noteEntry_time (s : State) (k : StateContent) (t : Tick) : (s.noteEntry k t).time = s.time := rfl
@[simp] theorem State.noteEntry_port (s : State) (k : StateContent) (t : Tick) : (s.noteEntry k t).port = s.port := rfl
@[simp] theorem State.noteEntry_pending (s : State) (k : StateContent) (t : Tick) : (s.noteEntry k t).pending = s.pending := rfl

/-! ### suspendSearch -/

@[simp] theorem State.suspendSearch_tick (s : State) (h : Nat) : (s.suspendSearch h).tick = s.tick := rfl
@[simp] theorem State.suspendSearch_level (s : State) (h : Nat) : (s.suspendSearch h).level = s.level := rfl
@[simp] theorem State.suspendSearch_states (s : State) (h : Nat) : (s.suspendSearch h).states = s.states := rfl
@[simp] theorem State.suspendSearch_curves (s : State) (h : Nat) : (s.suspendSearch h).curves = s.curves := rfl
@[simp] theorem State.suspendSearch_gen (s : State) (h : Nat) : (s.suspendSearch h).gen = s.gen := rfl
@[simp] theorem State.suspendSearch_channels (s : State) (h : Nat) : (s.suspendSearch h).channels = s.channels := rfl
@[simp] theorem State.suspendSearch_inputs (s : State) (h : Nat) : (s.suspendSearch h).inputs = s.inputs := rfl
@[simp] theorem State.suspendSearch_idleOutputs (s : State) (h : Nat) : (s.suspendSearch h).idleOutputs = s.idleOutputs := rfl
@[simp] theorem State.suspendSearch_time (s : State) (h : Nat) : (s.suspendSearch h).time = s.time := rfl
@[simp] theorem State.suspendSearch_shot (s : State) (h : Nat) : (s.suspendSearch h).shot = s.shot := rfl
@[simp] theorem State.suspendSearch_port (s : State) (h : Nat) : (s.suspendSearch h).port = s.port := rfl
@[simp] theorem State.suspendSearch_pending (s : State) (h : Nat) : (s.suspendSearch h).pending = s.pending := rfl

/-! ### unqueue -/

@[simp] theorem State.unqueue_tick (s : State) (h : Nat) : (s.unqueue h).tick = s.tick := rfl
@[simp] theorem State.unqueue_level (s : State) (h : Nat) : (s.unqueue h).level = s.level := rfl
@[simp] theorem State.unqueue_points (s : State) (h : Nat) : (s.unqueue h).points = s.points := rfl
@[simp] theorem State.unqueue_states (s : State) (h : Nat) : (s.unqueue h).states = s.states := rfl
@[simp] theorem State.unqueue_curves (s : State) (h : Nat) : (s.unqueue h).curves = s.curves := rfl
@[simp] theorem State.unqueue_gen (s : State) (h : Nat) : (s.unqueue h).gen = s.gen := rfl
@[simp] theorem State.unqueue_channels (s : State) (h : Nat) : (s.unqueue h).channels = s.channels := rfl
@[simp] theorem State.unqueue_inputs (s : State) (h : Nat) : (s.unqueue h).inputs = s.inputs := rfl
@[simp] theorem State.unqueue_idleOutputs (s : State) (h : Nat) : (s.unqueue h).idleOutputs = s.idleOutputs := rfl
@[simp] theorem State.unqueue_time (s : State) (h : Nat) : (s.unqueue h).time = s.time := rfl
@[simp] theorem State.unqueue_shot (s : State) (h : Nat) : (s.unqueue h).shot = s.shot := rfl
@[simp] theorem State.unqueue_port (s : State) (h : Nat) : (s.unqueue h).port = s.port := rfl
@[simp] theorem State.unqueue_pending (s : State) (h : Nat) : (s.unqueue h).pending = s.pending := rfl

/-! ### staleByState -/

@[simp] theorem State.staleByState_tick (s : State) (h : Nat) : (s.staleByState h).tick = s.tick := rfl
@[simp] theorem State.staleByState_level (s : State) (h : Nat) : (s.staleByState h).level = s.level := rfl
@[simp] theorem State.staleByState_states (s : State) (h : Nat) : (s.staleByState h).states = s.states := rfl
@[simp] theorem State.staleByState_curves (s : State) (h : Nat) : (s.staleByState h).curves = s.curves := rfl
@[simp] theorem State.staleByState_run (s : State) (h : Nat) : (s.staleByState h).run = s.run := rfl
@[simp] theorem State.staleByState_gen (s : State) (h : Nat) : (s.staleByState h).gen = s.gen := rfl
@[simp] theorem State.staleByState_channels (s : State) (h : Nat) : (s.staleByState h).channels = s.channels := rfl
@[simp] theorem State.staleByState_inputs (s : State) (h : Nat) : (s.staleByState h).inputs = s.inputs := rfl
@[simp] theorem State.staleByState_idleOutputs (s : State) (h : Nat) : (s.staleByState h).idleOutputs = s.idleOutputs := rfl
@[simp] theorem State.staleByState_time (s : State) (h : Nat) : (s.staleByState h).time = s.time := rfl
@[simp] theorem State.staleByState_shot (s : State) (h : Nat) : (s.staleByState h).shot = s.shot := rfl
@[simp] theorem State.staleByState_port (s : State) (h : Nat) : (s.staleByState h).port = s.port := rfl
@[simp] theorem State.staleByState_pending (s : State) (h : Nat) : (s.staleByState h).pending = s.pending := rfl

/-! ### staleByCurve -/

@[simp] theorem State.staleByCurve_tick (s : State) (h : Nat) : (s.staleByCurve h).tick = s.tick := rfl
@[simp] theorem State.staleByCurve_level (s : State) (h : Nat) : (s.staleByCurve h).level = s.level := rfl
@[simp] theorem State.staleByCurve_states (s : State) (h : Nat) : (s.staleByCurve h).states = s.states := rfl
@[simp] theorem State.staleByCurve_curves (s : State) (h : Nat) : (s.staleByCurve h).curves = s.curves := rfl
@[simp] theorem State.staleByCurve_run (s : State) (h : Nat) : (s.staleByCurve h).run = s.run := rfl
@[simp] theorem State.staleByCurve_gen (s : State) (h : Nat) : (s.staleByCurve h).gen = s.gen := rfl
@[simp] theorem State.staleByCurve_channels (s : State) (h : Nat) : (s.staleByCurve h).channels = s.channels := rfl
@[simp] theorem State.staleByCurve_inputs (s : State) (h : Nat) : (s.staleByCurve h).inputs = s.inputs := rfl
@[simp] theorem State.staleByCurve_idleOutputs (s : State) (h : Nat) : (s.staleByCurve h).idleOutputs = s.idleOutputs := rfl
@[simp] theorem State.staleByCurve_time (s : State) (h : Nat) : (s.staleByCurve h).time = s.time := rfl
@[simp] theorem State.staleByCurve_shot (s : State) (h : Nat) : (s.staleByCurve h).shot = s.shot := rfl
@[simp] theorem State.staleByCurve_port (s : State) (h : Nat) : (s.staleByCurve h).port = s.port := rfl
@[simp] theorem State.staleByCurve_pending (s : State) (h : Nat) : (s.staleByCurve h).pending = s.pending := rfl

/-! ### setChannel -/

@[simp] theorem State.setChannel_tick (s : State) (c : Chan) (f : Channel → Channel) : (s.setChannel c f).tick = s.tick := rfl
@[simp] theorem State.setChannel_level (s : State) (c : Chan) (f : Channel → Channel) : (s.setChannel c f).level = s.level := rfl
@[simp] theorem State.setChannel_points (s : State) (c : Chan) (f : Channel → Channel) : (s.setChannel c f).points = s.points := rfl
@[simp] theorem State.setChannel_states (s : State) (c : Chan) (f : Channel → Channel) : (s.setChannel c f).states = s.states := rfl
@[simp] theorem State.setChannel_curves (s : State) (c : Chan) (f : Channel → Channel) : (s.setChannel c f).curves = s.curves := rfl
@[simp] theorem State.setChannel_run (s : State) (c : Chan) (f : Channel → Channel) : (s.setChannel c f).run = s.run := rfl
@[simp] theorem State.setChannel_gen (s : State) (c : Chan) (f : Channel → Channel) : (s.setChannel c f).gen = s.gen := rfl
@[simp] theorem State.setChannel_inputs (s : State) (c : Chan) (f : Channel → Channel) : (s.setChannel c f).inputs = s.inputs := rfl
@[simp] theorem State.setChannel_idleOutputs (s : State) (c : Chan) (f : Channel → Channel) : (s.setChannel c f).idleOutputs = s.idleOutputs := rfl
@[simp] theorem State.setChannel_time (s : State) (c : Chan) (f : Channel → Channel) : (s.setChannel c f).time = s.time := rfl
@[simp] theorem State.setChannel_shot (s : State) (c : Chan) (f : Channel → Channel) : (s.setChannel c f).shot = s.shot := rfl
@[simp] theorem State.setChannel_port (s : State) (c : Chan) (f : Channel → Channel) : (s.setChannel c f).port = s.port := rfl
@[simp] theorem State.setChannel_pending (s : State) (c : Chan) (f : Channel → Channel) : (s.setChannel c f).pending = s.pending := rfl

/-! ### setInput -/

@[simp] theorem State.setInput_tick (s : State) (n : Inp) (f : Input → Input) : (s.setInput n f).tick = s.tick := rfl
@[simp] theorem State.setInput_level (s : State) (n : Inp) (f : Input → Input) : (s.setInput n f).level = s.level := rfl
@[simp] theorem State.setInput_points (s : State) (n : Inp) (f : Input → Input) : (s.setInput n f).points = s.points := rfl
@[simp] theorem State.setInput_states (s : State) (n : Inp) (f : Input → Input) : (s.setInput n f).states = s.states := rfl
@[simp] theorem State.setInput_curves (s : State) (n : Inp) (f : Input → Input) : (s.setInput n f).curves = s.curves := rfl
@[simp] theorem State.setInput_run (s : State) (n : Inp) (f : Input → Input) : (s.setInput n f).run = s.run := rfl
@[simp] theorem State.setInput_gen (s : State) (n : Inp) (f : Input → Input) : (s.setInput n f).gen = s.gen := rfl
@[simp] theorem State.setInput_channels (s : State) (n : Inp) (f : Input → Input) : (s.setInput n f).channels = s.channels := rfl
@[simp] theorem State.setInput_idleOutputs (s : State) (n : Inp) (f : Input → Input) : (s.setInput n f).idleOutputs = s.idleOutputs := rfl
@[simp] theorem State.setInput_time (s : State) (n : Inp) (f : Input → Input) : (s.setInput n f).time = s.time := rfl
@[simp] theorem State.setInput_shot (s : State) (n : Inp) (f : Input → Input) : (s.setInput n f).shot = s.shot := rfl
@[simp] theorem State.setInput_port (s : State) (n : Inp) (f : Input → Input) : (s.setInput n f).port = s.port := rfl
@[simp] theorem State.setInput_pending (s : State) (n : Inp) (f : Input → Input) : (s.setInput n f).pending = s.pending := rfl

/-! ### deliver -/

@[simp] theorem State.deliver_tick (s : State) : (s.deliver).tick = s.tick := rfl
@[simp] theorem State.deliver_level (s : State) : (s.deliver).level = s.level := rfl
@[simp] theorem State.deliver_points (s : State) : (s.deliver).points = s.points := rfl
@[simp] theorem State.deliver_states (s : State) : (s.deliver).states = s.states := rfl
@[simp] theorem State.deliver_curves (s : State) : (s.deliver).curves = s.curves := rfl
@[simp] theorem State.deliver_run (s : State) : (s.deliver).run = s.run := rfl
@[simp] theorem State.deliver_channels (s : State) : (s.deliver).channels = s.channels := rfl
@[simp] theorem State.deliver_inputs (s : State) : (s.deliver).inputs = s.inputs := rfl
@[simp] theorem State.deliver_idleOutputs (s : State) : (s.deliver).idleOutputs = s.idleOutputs := rfl
@[simp] theorem State.deliver_time (s : State) : (s.deliver).time = s.time := rfl
@[simp] theorem State.deliver_shot (s : State) : (s.deliver).shot = s.shot := rfl
@[simp] theorem State.deliver_port (s : State) : (s.deliver).port = s.port := rfl
@[simp] theorem State.deliver_pending (s : State) : (s.deliver).pending = s.pending := rfl

/-! ### clearForShot -/

@[simp] theorem State.clearForShot_tick (s : State) (d : StartDue) (t : Tick) : (s.clearForShot d t).tick = s.tick := rfl
@[simp] theorem State.clearForShot_level (s : State) (d : StartDue) (t : Tick) : (s.clearForShot d t).level = s.level := rfl
@[simp] theorem State.clearForShot_points (s : State) (d : StartDue) (t : Tick) : (s.clearForShot d t).points = s.points := rfl
@[simp] theorem State.clearForShot_states (s : State) (d : StartDue) (t : Tick) : (s.clearForShot d t).states = s.states := rfl
@[simp] theorem State.clearForShot_curves (s : State) (d : StartDue) (t : Tick) : (s.clearForShot d t).curves = s.curves := rfl
@[simp] theorem State.clearForShot_run (s : State) (d : StartDue) (t : Tick) : (s.clearForShot d t).run = s.run := rfl
@[simp] theorem State.clearForShot_channels (s : State) (d : StartDue) (t : Tick) : (s.clearForShot d t).channels = s.channels := rfl
@[simp] theorem State.clearForShot_idleOutputs (s : State) (d : StartDue) (t : Tick) : (s.clearForShot d t).idleOutputs = s.idleOutputs := rfl
@[simp] theorem State.clearForShot_time (s : State) (d : StartDue) (t : Tick) : (s.clearForShot d t).time = s.time := rfl
@[simp] theorem State.clearForShot_port (s : State) (d : StartDue) (t : Tick) : (s.clearForShot d t).port = s.port := rfl
@[simp] theorem State.clearForShot_pending (s : State) (d : StartDue) (t : Tick) : (s.clearForShot d t).pending = s.pending := rfl

/-! ### tuneTo -/

@[simp] theorem State.tuneTo_tick (s : State) (c : StateContent) : (s.tuneTo c).tick = s.tick := rfl
@[simp] theorem State.tuneTo_level (s : State) (c : StateContent) : (s.tuneTo c).level = s.level := rfl
@[simp] theorem State.tuneTo_points (s : State) (c : StateContent) : (s.tuneTo c).points = s.points := rfl
@[simp] theorem State.tuneTo_states (s : State) (c : StateContent) : (s.tuneTo c).states = s.states := rfl
@[simp] theorem State.tuneTo_curves (s : State) (c : StateContent) : (s.tuneTo c).curves = s.curves := rfl
@[simp] theorem State.tuneTo_run (s : State) (c : StateContent) : (s.tuneTo c).run = s.run := rfl
@[simp] theorem State.tuneTo_channels (s : State) (c : StateContent) : (s.tuneTo c).channels = s.channels := rfl
@[simp] theorem State.tuneTo_inputs (s : State) (c : StateContent) : (s.tuneTo c).inputs = s.inputs := rfl
@[simp] theorem State.tuneTo_idleOutputs (s : State) (c : StateContent) : (s.tuneTo c).idleOutputs = s.idleOutputs := rfl
@[simp] theorem State.tuneTo_time (s : State) (c : StateContent) : (s.tuneTo c).time = s.time := rfl
@[simp] theorem State.tuneTo_shot (s : State) (c : StateContent) : (s.tuneTo c).shot = s.shot := rfl
@[simp] theorem State.tuneTo_port (s : State) (c : StateContent) : (s.tuneTo c).port = s.port := rfl
@[simp] theorem State.tuneTo_pending (s : State) (c : StateContent) : (s.tuneTo c).pending = s.pending := rfl

/-! ### What an answer sets -/

@[simp] theorem State.respond_link (s : State) (code : ResultCode) (payload : List Byte) :
    (s.respond code payload).port.link = .answer := rfl
@[simp] theorem State.respond_response (s : State) (code : ResultCode) (payload : List Byte) :
    (s.respond code payload).port.response = frameOf code.code payload := rfl
@[simp] theorem State.respond_inHand (s : State) (code : ResultCode) (payload : List Byte) :
    (s.respond code payload).port.inHand = none := rfl
@[simp] theorem State.accept_link (s : State) (payload : List Byte) :
    (s.accept payload).port.link = .answer := rfl
@[simp] theorem State.accept_response (s : State) (payload : List Byte) :
    (s.accept payload).port.response = frameOf 0 payload := rfl
@[simp] theorem State.accept_inHand (s : State) (payload : List Byte) :
    (s.accept payload).port.inHand = none := rfl
@[simp] theorem State.refuse_link (s : State) (code : ResultCode) :
    (s.refuse code).port.link = .answer := rfl
@[simp] theorem State.refuse_response (s : State) (code : ResultCode) :
    (s.refuse code).port.response = frameOf code.code [] := rfl
@[simp] theorem State.refuse_inHand (s : State) (code : ResultCode) :
    (s.refuse code).port.inHand = none := rfl
@[simp] theorem State.respond_port_request (s : State) (code : ResultCode) (payload : List Byte) :
    (s.respond code payload).port.request = s.port.request := rfl
@[simp] theorem State.accept_port_request (s : State) (payload : List Byte) :
    (s.accept payload).port.request = s.port.request := rfl
@[simp] theorem State.refuse_port_request (s : State) (code : ResultCode) :
    (s.refuse code).port.request = s.port.request := rfl
@[simp] theorem State.respond_port_queueEmpty (s : State) (code : ResultCode) (payload : List Byte) :
    (s.respond code payload).port.queueEmpty = s.port.queueEmpty := rfl
@[simp] theorem State.accept_port_queueEmpty (s : State) (payload : List Byte) :
    (s.accept payload).port.queueEmpty = s.port.queueEmpty := rfl
@[simp] theorem State.refuse_port_queueEmpty (s : State) (code : ResultCode) :
    (s.refuse code).port.queueEmpty = s.port.queueEmpty := rfl
@[simp] theorem State.respond_port_time (s : State) (code : ResultCode) (payload : List Byte) :
    (s.respond code payload).port.time = s.port.time := rfl
@[simp] theorem State.accept_port_time (s : State) (payload : List Byte) :
    (s.accept payload).port.time = s.port.time := rfl
@[simp] theorem State.refuse_port_time (s : State) (code : ResultCode) :
    (s.refuse code).port.time = s.port.time := rfl
@[simp] theorem State.respond_port_channel (s : State) (code : ResultCode) (payload : List Byte) :
    (s.respond code payload).port.channel = s.port.channel := rfl
@[simp] theorem State.accept_port_channel (s : State) (payload : List Byte) :
    (s.accept payload).port.channel = s.port.channel := rfl
@[simp] theorem State.refuse_port_channel (s : State) (code : ResultCode) :
    (s.refuse code).port.channel = s.port.channel := rfl
@[simp] theorem State.respond_port_linkCause (s : State) (code : ResultCode) (payload : List Byte) :
    (s.respond code payload).port.linkCause = s.port.linkCause := rfl
@[simp] theorem State.accept_port_linkCause (s : State) (payload : List Byte) :
    (s.accept payload).port.linkCause = s.port.linkCause := rfl
@[simp] theorem State.refuse_port_linkCause (s : State) (code : ResultCode) :
    (s.refuse code).port.linkCause = s.port.linkCause := rfl
@[simp] theorem State.respond_port_refused (s : State) (code : ResultCode) (payload : List Byte) :
    (s.respond code payload).port.refused = s.port.refused := rfl
@[simp] theorem State.accept_port_refused (s : State) (payload : List Byte) :
    (s.accept payload).port.refused = s.port.refused := rfl
@[simp] theorem State.refuse_port_refused (s : State) (code : ResultCode) :
    (s.refuse code).port.refused = s.port.refused := rfl
@[simp] theorem State.respond_port_frameCut (s : State) (code : ResultCode) (payload : List Byte) :
    (s.respond code payload).port.frameCut = s.port.frameCut := rfl
@[simp] theorem State.accept_port_frameCut (s : State) (payload : List Byte) :
    (s.accept payload).port.frameCut = s.port.frameCut := rfl
@[simp] theorem State.refuse_port_frameCut (s : State) (code : ResultCode) :
    (s.refuse code).port.frameCut = s.port.frameCut := rfl
@[simp] theorem State.respond_port_shifted (s : State) (code : ResultCode) (payload : List Byte) :
    (s.respond code payload).port.shifted = s.port.shifted := rfl
@[simp] theorem State.accept_port_shifted (s : State) (payload : List Byte) :
    (s.accept payload).port.shifted = s.port.shifted := rfl
@[simp] theorem State.refuse_port_shifted (s : State) (code : ResultCode) :
    (s.refuse code).port.shifted = s.port.shifted := rfl

/-! ### readHigh -/

@[simp] theorem Timebase.readHigh_lock (b : Timebase) (t : Tick) : (b.readHigh t).lock = b.lock := rfl
@[simp] theorem Timebase.readHigh_window (b : Timebase) (t : Tick) : (b.readHigh t).window = b.window := rfl
@[simp] theorem Timebase.readHigh_missedLimit (b : Timebase) (t : Tick) : (b.readHigh t).missedLimit = b.missedLimit := rfl
@[simp] theorem Timebase.readHigh_holdoverLimit (b : Timebase) (t : Tick) : (b.readHigh t).holdoverLimit = b.holdoverLimit := rfl
@[simp] theorem Timebase.readHigh_acquisition (b : Timebase) (t : Tick) : (b.readHigh t).acquisition = b.acquisition := rfl
@[simp] theorem Timebase.readHigh_reference (b : Timebase) (t : Tick) : (b.readHigh t).reference = b.reference := rfl
@[simp] theorem Timebase.readHigh_referenceKind (b : Timebase) (t : Tick) : (b.readHigh t).referenceKind = b.referenceKind := rfl
@[simp] theorem Timebase.readHigh_referenceClosed (b : Timebase) (t : Tick) : (b.readHigh t).referenceClosed = b.referenceClosed := rfl
@[simp] theorem Timebase.readHigh_history (b : Timebase) (t : Tick) : (b.readHigh t).history = b.history := rfl
@[simp] theorem Timebase.readHigh_missed (b : Timebase) (t : Tick) : (b.readHigh t).missed = b.missed := rfl
@[simp] theorem Timebase.readHigh_holdoverEntry (b : Timebase) (t : Tick) : (b.readHigh t).holdoverEntry = b.holdoverEntry := rfl
@[simp] theorem Timebase.readHigh_label (b : Timebase) (t : Tick) : (b.readHigh t).label = b.label := rfl
@[simp] theorem Timebase.readHigh_held (b : Timebase) (t : Tick) : (b.readHigh t).held = b.held := rfl
@[simp] theorem Timebase.readHigh_timeStep (b : Timebase) (t : Tick) : (b.readHigh t).timeStep = b.timeStep := rfl
@[simp] theorem Timebase.readHigh_spurious (b : Timebase) (t : Tick) : (b.readHigh t).spurious = b.spurious := rfl
@[simp] theorem Timebase.readHigh_discards (b : Timebase) (t : Tick) : (b.readHigh t).discards = b.discards := rfl
@[simp] theorem Timebase.readHigh_receiver (b : Timebase) (t : Tick) : (b.readHigh t).receiver = b.receiver := rfl
@[simp] theorem Timebase.readHigh_pps (b : Timebase) (t : Tick) :
    (b.readHigh t).pps = { high := true, readAt := t } := rfl

/-! ### Run state -/

@[simp] theorem State.setRun_run_queue (s : State) (r : RunState) :
    (s.setRun r).run.queue = s.run.queue := rfl
@[simp] theorem State.enterRest_run_queue (s : State) (t : Tick) (f : Option Tick) :
    (s.enterRest t f).run.queue = s.run.queue := rfl
@[simp] theorem State.setRun_run_active (s : State) (r : RunState) :
    (s.setRun r).run.active = s.run.active := rfl
@[simp] theorem State.enterRest_run_active (s : State) (t : Tick) (f : Option Tick) :
    (s.enterRest t f).run.active = s.run.active := rfl
@[simp] theorem State.setRun_run_hold (s : State) (r : RunState) :
    (s.setRun r).run.hold = s.run.hold := rfl
@[simp] theorem State.enterRest_run_hold (s : State) (t : Tick) (f : Option Tick) :
    (s.enterRest t f).run.hold = s.run.hold := rfl
@[simp] theorem State.setRun_run_setup (s : State) (r : RunState) :
    (s.setRun r).run.setup = s.run.setup := rfl
@[simp] theorem State.enterRest_run_setup (s : State) (t : Tick) (f : Option Tick) :
    (s.enterRest t f).run.setup = s.run.setup := rfl
@[simp] theorem State.setRun_run_state (s : State) (r : RunState) :
    (s.setRun r).run.state = r := rfl
@[simp] theorem State.enterRest_run_state (s : State) (t : Tick) (f : Option Tick) :
    (s.enterRest t f).run.state = .rest t s.run.setup.restInterval false f := rfl
@[simp] theorem State.postActive_run_queue (s : State) (h : Nat) (r : Result) :
    (s.postActive h r).run.queue = s.run.queue := rfl
@[simp] theorem State.postActive_run_state (s : State) (h : Nat) (r : Result) :
    (s.postActive h r).run.state = s.run.state := rfl
@[simp] theorem State.postActive_run_hold (s : State) (h : Nat) (r : Result) :
    (s.postActive h r).run.hold = s.run.hold := rfl
@[simp] theorem State.postActive_run_setup (s : State) (h : Nat) (r : Result) :
    (s.postActive h r).run.setup = s.run.setup := rfl
@[simp] theorem State.postActive_run_active (s : State) (h : Nat) (r : Result) :
    (s.postActive h r).run.active = none := rfl
@[simp] theorem State.postActive_points (s : State) (h : Nat) (r : Result) :
    (s.postActive h r).points = s.points.change h (TestPoint.post r) := rfl

/-! ### The passage of time -/

@[simp] theorem State.advanceTo_level (s : State) (t : Tick) : (s.advanceTo t).level = s.level := by
  unfold State.advanceTo; split <;> rfl
@[simp] theorem State.atInstant_level (s : State) (t : Tick) : (s.atInstant t).level = s.level := by
  simp [State.atInstant]
@[simp] theorem State.advanceTo_points (s : State) (t : Tick) : (s.advanceTo t).points = s.points := by
  unfold State.advanceTo; split <;> rfl
@[simp] theorem State.atInstant_points (s : State) (t : Tick) : (s.atInstant t).points = s.points := by
  simp [State.atInstant]
@[simp] theorem State.advanceTo_states (s : State) (t : Tick) : (s.advanceTo t).states = s.states := by
  unfold State.advanceTo; split <;> rfl
@[simp] theorem State.atInstant_states (s : State) (t : Tick) : (s.atInstant t).states = s.states := by
  simp [State.atInstant]
@[simp] theorem State.advanceTo_curves (s : State) (t : Tick) : (s.advanceTo t).curves = s.curves := by
  unfold State.advanceTo; split <;> rfl
@[simp] theorem State.atInstant_curves (s : State) (t : Tick) : (s.atInstant t).curves = s.curves := by
  simp [State.atInstant]
@[simp] theorem State.advanceTo_run (s : State) (t : Tick) : (s.advanceTo t).run = s.run := by
  unfold State.advanceTo; split <;> rfl
@[simp] theorem State.atInstant_run (s : State) (t : Tick) : (s.atInstant t).run = s.run := by
  simp [State.atInstant]
@[simp] theorem State.advanceTo_gen (s : State) (t : Tick) : (s.advanceTo t).gen = s.gen := by
  unfold State.advanceTo; split <;> rfl
@[simp] theorem State.advanceTo_channels (s : State) (t : Tick) : (s.advanceTo t).channels = s.channels := by
  unfold State.advanceTo; split <;> rfl
@[simp] theorem State.atInstant_channels (s : State) (t : Tick) : (s.atInstant t).channels = s.channels := by
  simp [State.atInstant]
@[simp] theorem State.advanceTo_inputs (s : State) (t : Tick) : (s.advanceTo t).inputs = s.inputs := by
  unfold State.advanceTo; split <;> rfl
@[simp] theorem State.atInstant_inputs (s : State) (t : Tick) : (s.atInstant t).inputs = s.inputs := by
  simp [State.atInstant]
@[simp] theorem State.advanceTo_idleOutputs (s : State) (t : Tick) : (s.advanceTo t).idleOutputs = s.idleOutputs := by
  unfold State.advanceTo; split <;> rfl
@[simp] theorem State.atInstant_idleOutputs (s : State) (t : Tick) : (s.atInstant t).idleOutputs = s.idleOutputs := by
  simp [State.atInstant]
@[simp] theorem State.advanceTo_time (s : State) (t : Tick) : (s.advanceTo t).time = s.time := by
  unfold State.advanceTo; split <;> rfl
@[simp] theorem State.atInstant_time (s : State) (t : Tick) : (s.atInstant t).time = s.time := by
  simp [State.atInstant]
@[simp] theorem State.advanceTo_shot (s : State) (t : Tick) : (s.advanceTo t).shot = s.shot := by
  unfold State.advanceTo; split <;> rfl
@[simp] theorem State.atInstant_shot (s : State) (t : Tick) : (s.atInstant t).shot = s.shot := by
  simp [State.atInstant]
@[simp] theorem State.advanceTo_port (s : State) (t : Tick) : (s.advanceTo t).port = s.port := by
  unfold State.advanceTo; split <;> rfl
@[simp] theorem State.atInstant_port (s : State) (t : Tick) : (s.atInstant t).port = s.port := by
  simp [State.atInstant]
@[simp] theorem State.advanceTo_pending (s : State) (t : Tick) : (s.advanceTo t).pending = s.pending := by
  unfold State.advanceTo; split <;> rfl
@[simp] theorem State.atInstant_pending (s : State) (t : Tick) : (s.atInstant t).pending = s.pending := by
  simp [State.atInstant]
@[simp] theorem State.atInstant_gen (s : State) (t : Tick) : (s.atInstant t).gen = s.gen.arrive t := rfl
@[simp] theorem State.atInstant_tick (s : State) (t : Tick) : (s.atInstant t).tick = (s.advanceTo t).tick := rfl

end Sys2Proof.Machine
end

