-- ==== Sys2Proof/Laws/Table.lean ====
section
/-! SUPPORT. The tables of the Plan Store: what each operation reads back as, and that it keeps the canonical form. -/

namespace Sys2Proof.Machine

variable {α : Type}

/-! ## Reading after a change -/

@[simp] theorem Table.at?_nil (h : Nat) : Table.at? ([] : Table α) h = none := rfl

theorem Table.at?_put (t : Table α) (h k : Nat) (a : α) :
    (t.put h a).at? k = if h = k then some a else t.at? k := by
  induction t with
  | nil => simp [Table.put, Table.at?]
  | cons e t ih =>
    obtain ⟨j, b⟩ := e
    unfold Table.put
    by_cases hk : h = k
    · subst hk; split <;> [skip; split] <;> simp_all [Table.at?]
    · split <;> [skip; split] <;> simp_all [Table.at?]

theorem Table.at?_drop (t : Table α) (h k : Nat) :
    (t.drop h).at? k = if h = k then none else t.at? k := by
  induction t with
  | nil => simp [Table.drop]
  | cons e t ih =>
    obtain ⟨j, b⟩ := e
    by_cases hj : j = h <;> by_cases hk : h = k <;> simp_all [Table.drop, Table.at?]

theorem Table.at?_change (t : Table α) (h k : Nat) (f : α → α) :
    (t.change h f).at? k = if h = k then (t.at? k).map f else t.at? k := by
  induction t with
  | nil => simp [Table.change]
  | cons e t ih =>
    obtain ⟨j, b⟩ := e
    by_cases hj : j = k
    · subst hj
      by_cases hh : j = h
      · subst hh; simp [Table.change, Table.at?]
      · have : ¬ h = j := fun e => hh e.symm
        simp [Table.change, Table.at?, hh, this]
    · simp [Table.change, Table.at?, hj, ih]

theorem Table.at?_changeAll (t : Table α) (k : Nat) (f : Nat → α → α) :
    (t.changeAll f).at? k = (t.at? k).map (f k) := by
  induction t with
  | nil => simp [Table.changeAll]
  | cons e t ih =>
    obtain ⟨j, b⟩ := e
    by_cases hj : j = k
    · subst hj; simp [Table.changeAll, Table.at?]
    · simp [Table.changeAll, Table.at?, hj, ih]

/-- Every entry listed in a table is read at some handle's first entry; in canonical form at its own. -/
theorem Table.at?_isSome_of_mem (t : Table α) (e : Nat × α) (he : e ∈ t) : (t.at? e.1).isSome := by
  induction t with
  | nil => cases he
  | cons d t ih =>
    obtain ⟨j, b⟩ := d
    by_cases hj : j = e.1
    · simp [Table.at?, hj]
    · rcases List.mem_cons.1 he with rfl | he
      · exact absurd rfl hj
      · simpa [Table.at?, hj] using ih he

theorem Table.mem_of_at? (t : Table α) (h : Nat) (a : α) (ha : t.at? h = some a) : (h, a) ∈ t := by
  induction t with
  | nil => cases ha
  | cons d t ih =>
    obtain ⟨j, b⟩ := d
    by_cases hj : j = h
    · subst hj; simp [Table.at?] at ha; simp [ha]
    · exact List.mem_cons_of_mem _ (ih (by simpa [Table.at?, hj] using ha))

/-! ## The lowest absent handle -/

/-- The lowest absent handle is absent and in range, and every handle below it is present (R1). -/
theorem Table.lowestAbsent_spec (t : Table α) (size h : Nat) (hh : t.lowestAbsent size = some h) :
    1 ≤ h ∧ h ≤ size ∧ t.at? h = none ∧ ∀ k, 1 ≤ k → k < h → (t.at? k).isSome := by
  unfold Table.lowestAbsent at hh
  rw [List.find?_range'_eq_some] at hh
  obtain ⟨ha, hm, hlt⟩ := hh
  rw [List.mem_range'_1] at hm
  refine ⟨hm.1, by omega, by simpa using ha, fun k h1 h2 => ?_⟩
  have := hlt k h1 h2
  cases hk : t.at? k <;> simp_all

/-! ## Canonical form -/

/-- The canonical form as a proposition: handles in range and strictly rising. -/
theorem Table.wf_iff (t : Table α) (size : Nat) :
    t.wf size = true ↔ (∀ e ∈ t, 1 ≤ e.1 ∧ e.1 ≤ size) ∧ t.Pairwise fun a b => a.1 < b.1 := by
  simp [Table.wf]

theorem Table.mem_put (t : Table α) (h : Nat) (a : α) (e : Nat × α) (he : e ∈ t.put h a) :
    e = (h, a) ∨ e ∈ t := by
  induction t with
  | nil => simpa [Table.put] using he
  | cons d t ih =>
    obtain ⟨j, b⟩ := d
    unfold Table.put at he
    split at he
    · simpa using he
    · split at he
      · rcases List.mem_cons.1 he with rfl | he
        · exact .inl rfl
        · exact .inr (List.mem_cons_of_mem _ he)
      · rcases List.mem_cons.1 he with rfl | he
        · exact .inr List.mem_cons_self
        · rcases ih he with h1 | h1
          · exact .inl h1
          · exact .inr (List.mem_cons_of_mem _ h1)

/-- Making an entry in range present keeps the canonical form (R1). -/
theorem Table.wf_put (t : Table α) (size h : Nat) (a : α) (ht : t.wf size = true) (h1 : 1 ≤ h) (h2 : h ≤ size) :
    (t.put h a).wf size = true := by
  rw [Table.wf_iff] at ht ⊢
  obtain ⟨hr, hp⟩ := ht
  refine ⟨fun e he => ?_, ?_⟩
  · rcases Table.mem_put t h a e he with rfl | he
    · exact ⟨h1, h2⟩
    · exact hr e he
  · induction t with
    | nil => simp [Table.put]
    | cons d t ih =>
      obtain ⟨j, b⟩ := d
      rw [List.pairwise_cons] at hp
      have hr' : ∀ e ∈ t, 1 ≤ e.1 ∧ e.1 ≤ size := fun e he => hr e (List.mem_cons_of_mem _ he)
      unfold Table.put
      split
      · rename_i hlt
        rw [List.pairwise_cons, List.pairwise_cons]
        refine ⟨fun e he => ?_, hp⟩
        rcases List.mem_cons.1 he with rfl | he
        · exact hlt
        · exact lt_trans hlt (hp.1 e he)
      · split
        · rename_i _ heq
          subst heq
          exact List.pairwise_cons.2 ⟨hp.1, hp.2⟩
        · rename_i hn hne
          refine List.pairwise_cons.2 ⟨fun e he => ?_, ih hr' hp.2⟩
          rcases Table.mem_put t h a e he with rfl | he
          · exact lt_of_le_of_ne (not_lt.1 hn) hne
          · exact hp.1 e he

theorem Table.drop_sublist (t : Table α) (h : Nat) : (t.drop h).Sublist t := by
  induction t with
  | nil => exact List.Sublist.refl _
  | cons d t ih =>
    obtain ⟨j, b⟩ := d
    by_cases hj : j = h
    · simpa [Table.drop, hj] using ih.trans (List.sublist_cons_self _ _)
    · simpa [Table.drop, hj] using ih

/-- Making an entry absent keeps the canonical form (R1). -/
theorem Table.wf_drop (t : Table α) (size h : Nat) (ht : t.wf size = true) : (t.drop h).wf size = true := by
  rw [Table.wf_iff] at ht ⊢
  exact ⟨fun e he => ht.1 e ((Table.drop_sublist t h).subset he), ht.2.sublist (Table.drop_sublist t h)⟩

@[simp] theorem Table.change_handles (t : Table α) (h : Nat) (f : α → α) :
    (t.change h f).map Prod.fst = t.map Prod.fst := by
  induction t with
  | nil => rfl
  | cons d t ih => obtain ⟨j, b⟩ := d; simpa [Table.change] using ih

@[simp] theorem Table.changeAll_handles (t : Table α) (f : Nat → α → α) :
    (t.changeAll f).map Prod.fst = t.map Prod.fst := by
  induction t with
  | nil => rfl
  | cons d t ih => obtain ⟨j, b⟩ := d; simpa [Table.changeAll] using ih

/-- The canonical form depends on the handles alone. -/
theorem Table.wf_of_handles {β : Type} (t : Table α) (u : Table β) (size : Nat)
    (h : t.map Prod.fst = u.map Prod.fst) (ht : t.wf size = true) : u.wf size = true := by
  rw [Table.wf_iff] at ht ⊢
  have key : ∀ {γ : Type} (v : Table γ),
      ((∀ e ∈ v, 1 ≤ e.1 ∧ e.1 ≤ size) ∧ v.Pairwise fun a b => a.1 < b.1) ↔
      ((∀ k ∈ v.map Prod.fst, 1 ≤ k ∧ k ≤ size) ∧ (v.map Prod.fst).Pairwise fun a b => a < b) := by
    intro γ v
    rw [List.pairwise_map]
    simp
  rw [key] at ht ⊢
  rwa [← h]

/-- Changing a record keeps the canonical form (R1). -/
theorem Table.wf_change (t : Table α) (size h : Nat) (f : α → α) (ht : t.wf size = true) :
    (t.change h f).wf size = true :=
  Table.wf_of_handles t _ size (Table.change_handles t h f).symm ht

/-- Changing every record keeps the canonical form (R1). -/
theorem Table.wf_changeAll (t : Table α) (size : Nat) (f : Nat → α → α) (ht : t.wf size = true) :
    (t.changeAll f).wf size = true :=
  Table.wf_of_handles t _ size (Table.changeAll_handles t f).symm ht

end Sys2Proof.Machine
end

