-- ==== Sys2Proof/Laws/Ops.lean ====
section
/-! SUPPORT. For each shared operation, what it can do: proofs about commands cite these and do not unfold the
operation. -/

namespace Sys2Proof.Machine

/-! ## Requests -/

/-- A request on a record: BAD_HANDLE, ABSENT, or the action on the record present (R2). -/
theorem State.onRecord_cases {α : Type} (s : State) (t : Table α) (size h : Nat) (act : α → State) :
    ((h = 0 ∨ size < h) ∧ s.onRecord t size h act = s.refuse .badHandle) ∨
    (1 ≤ h ∧ h ≤ size ∧ t.at? h = none ∧ s.onRecord t size h act = s.refuse .absent) ∨
    (1 ≤ h ∧ h ≤ size ∧ ∃ r, t.at? h = some r ∧ s.onRecord t size h act = act r) := by
  unfold State.onRecord
  split
  · exact .inl ⟨‹_›, rfl⟩
  · cases ht : t.at? h with
    | none => exact .inr (.inl ⟨by omega, by omega, rfl, rfl⟩)
    | some r => exact .inr (.inr ⟨by omega, by omega, r, rfl, rfl⟩)

/-- A request on a present record in range acts on it. -/
theorem State.onRecord_present {α : Type} (s : State) (t : Table α) (size h : Nat) (act : α → State) (r : α)
    (h1 : 1 ≤ h) (h2 : h ≤ size) (hr : t.at? h = some r) : s.onRecord t size h act = act r := by
  have : ¬ (h = 0 ∨ size < h) := by omega
  simp [State.onRecord, this, hr]

/-- A request on a channel number acts on its channel, or is refused with BAD_HANDLE. -/
theorem State.onChannel_cases (s : State) (k : Nat) (act : Chan → State) :
    (Chan.ofNumber k = none ∧ s.onChannel k act = s.refuse .badHandle) ∨
    ∃ c, Chan.ofNumber k = some c ∧ s.onChannel k act = act c := by
  unfold State.onChannel
  cases Chan.ofNumber k with
  | none => exact .inl ⟨rfl, rfl⟩
  | some c => exact .inr ⟨c, rfl, rfl⟩

@[simp] theorem State.onChannel_number (s : State) (c : Chan) (act : Chan → State) :
    s.onChannel c.number act = act c := by simp [State.onChannel]

/-- A request on an input number acts on its input, or is refused with BAD_HANDLE. -/
theorem State.onInput_cases (s : State) (k : Nat) (act : Inp → State) :
    (Inp.ofNumber k = none ∧ s.onInput k act = s.refuse .badHandle) ∨
    ∃ n, Inp.ofNumber k = some n ∧ s.onInput k act = act n := by
  unfold State.onInput
  cases Inp.ofNumber k with
  | none => exact .inl ⟨rfl, rfl⟩
  | some c => exact .inr ⟨c, rfl, rfl⟩

@[simp] theorem State.onInput_number (s : State) (n : Inp) (act : Inp → State) :
    s.onInput n.number act = act n := by simp [State.onInput]

/-! ## Events -/

/-- An event takes place, or only time passes. -/
theorem State.happen_cases (s : State) (t : Tick) (condition : State → Bool) (effect : State → State) :
    (condition (s.advanceTo t) = true ∧ s.happen t condition effect = effect (s.advanceTo t)) ∨
    (condition (s.advanceTo t) = false ∧ s.happen t condition effect = s.advanceTo t) := by
  unfold State.happen
  cases condition (s.advanceTo t) <;> simp

/-- A Run Controller event takes place at a generator instant, or only time passes. -/
theorem State.onInstant_cases (s : State) (t : Tick) (condition : State → Bool) (effect : State → State) :
    (t.isGeneratorInstant = true ∧ condition (s.advanceTo t) = true ∧
      s.onInstant t condition effect = effect (s.atInstant t)) ∨
    s.onInstant t condition effect = s.advanceTo t := by
  unfold State.onInstant
  cases t.isGeneratorInstant <;> cases condition (s.advanceTo t) <;> simp

/-- Time only moves the tick counter, to the tick reached or not at all. -/
theorem State.advanceTo_eq (s : State) (t : Tick) :
    s.advanceTo t = { s with tick := t } ∨ s.advanceTo t = s := by
  unfold State.advanceTo; split <;> simp

/-! ## The ACTIVE test point and postings -/

/-- The ACTIVE test point is the present one at the active handle. -/
theorem State.activePoint_eq_some (s : State) (h : Nat) (p : TestPoint) :
    s.activePoint = some (h, p) ↔ s.run.active = some h ∧ s.points.at? h = some p := by
  unfold State.activePoint State.point?
  cases ha : s.run.active with
  | none => simp
  | some k =>
    simp only [Option.map_eq_some_iff, Prod.mk.injEq, Option.some.injEq]
    constructor
    · rintro ⟨q, hq, rfl, rfl⟩; exact ⟨rfl, hq⟩
    · rintro ⟨rfl, hq⟩; exact ⟨p, hq, rfl, rfl⟩

/-- Posting writes the result whole with UNREAD set and STALE clear, and nothing else of the content (R126). -/
theorem TestPoint.post_spec (r : Result) (p : TestPoint) :
    (p.post r).content = p.content ∧ (p.post r).editLevel = p.editLevel ∧ (p.post r).status = .idle ∧
    (p.post r).context = none ∧ ∃ k, (p.post r).result = some k ∧ k.verdict = r.verdict ∧ k.reason = r.reason ∧
      k.flags.unread = true ∧ k.flags.stale = false ∧
      k.runCount = nextRunCount p.result (r.verdict ≠ .aborted) :=
  ⟨rfl, rfl, rfl, rfl, _, rfl, rfl, rfl, rfl, rfl, rfl⟩

/-- After a posting the test point at the handle holds the posted result, and the others stand. -/
theorem State.postActive_at? (s : State) (h k : Nat) (r : Result) :
    (s.postActive h r).points.at? k = if h = k then (s.points.at? k).map (TestPoint.post r) else s.points.at? k := by
  simp [Table.at?_change]

/-- An abort posts on the ACTIVE test point and enters REST, or finds none ACTIVE (R61). -/
theorem State.abortActive_cases (s : State) (reason : AbortReason) (t : Tick) :
    (s.activePoint = none ∧ s.abortActive reason t = s) ∨
    ∃ h p, s.activePoint = some (h, p) ∧ s.abortActive reason t = (s.abortCore h p reason t).enterRest t none := by
  unfold State.abortActive
  cases ha : s.activePoint with
  | none => exact .inl ⟨rfl, rfl⟩
  | some e => exact .inr ⟨e.1, e.2, rfl, rfl⟩

@[simp] theorem State.abortCore_points (s : State) (h : Nat) (p : TestPoint) (reason : AbortReason) (t : Tick) :
    (s.abortCore h p reason t).points =
      s.points.change h (TestPoint.post ((s.handNotes t).abortResult p reason t)) := by
  unfold State.abortCore
  split <;> simp

@[simp] theorem State.abortCore_active (s : State) (h : Nat) (p : TestPoint) (reason : AbortReason) (t : Tick) :
    (s.abortCore h p reason t).run = { s.run with active := none } := by
  unfold State.abortCore
  split <;> rfl

/-! ## The Run Controller -/

/-- What PRECHECK leads to (R50): an abort, PLAYING, START_WAIT or RESET_WAIT. -/
theorem State.precheck_cases (s : State) (t : Tick) (h : Nat) (p : TestPoint) (ha : s.activePoint = some (h, p)) :
    (∃ reason, s.precheck t = (s.setRun .precheck).abortActive reason t) ∨
    (p.content.start = .immediate ∧
      s.precheck t = s.setRun (.playing { stage := .ready (Tick.instantAfter t), fault := none })) ∨
    ((∃ d n o, p.content.start = .atTime d n o) ∧
      s.precheck t = s.setRun (.startWait { policy := s.run.setup.policy, start := none, lost := none })) ∨
    s.precheck t = s.setRun (.resetWait t s.run.setup.resetWait) := by
  have ha' : (s.setRun .precheck).activePoint = some (h, p) := ha
  unfold State.precheck
  simp only [ha']
  split
  · exact .inl ⟨_, rfl⟩
  · split
    · exact .inl ⟨_, rfl⟩
    · split
      · unfold State.letStart
        cases hs : p.content.start with
        | immediate => exact .inr (.inl ⟨rfl, rfl⟩)
        | atTime d n o => exact .inr (.inr (.inl ⟨⟨d, n, o, rfl⟩, rfl⟩))
      · exact .inr (.inr (.inr rfl))

/-- Entering IDLE raises QUEUE_EMPTY, waits, or takes the head (R48). -/
theorem State.enterIdle_cases (s : State) (t : Tick) :
    (s.run.queue = [] ∧ s.enterIdle t = (s.setRun .idle).raiseQueueEmpty) ∨
    (s.run.queue ≠ [] ∧ s.run.hold = true ∧ s.enterIdle t = s.setRun .idle) ∨
    (s.run.queue ≠ [] ∧ s.run.hold = false ∧ s.enterIdle t = (s.setRun .idle).takeHead t) := by
  unfold State.enterIdle
  by_cases hq : s.run.queue = []
  · simp [hq]
  · cases hh : s.run.hold <;> simp [hq, hh]

/-- Adding to the queue is refused, or places the entry and takes the head where the controller is free to (R42). -/
theorem State.enqueue_cases (s : State) (h : Nat) (queue : List QueueEntry) (position : Nat) :
    (∃ code, s.enqueue h queue position = s.refuse code) ∨
    (∃ p, 1 ≤ h ∧ h ≤ 64 ∧ s.points.at? h = some p ∧ p.status = .idle ∧ s.run.queue.length < 32 ∧
      s.enqueue h queue position =
        (State.takeIfIdle
          { s with points := s.points.change h fun p => { p with status := .queued }
                   run := { s.run with queue := queue } } s.tick).accept (bytesOf 1 position)) := by
  unfold State.enqueue
  split
  · exact .inl ⟨_, rfl⟩
  · cases hp : s.point? h with
    | none => exact .inl ⟨_, rfl⟩
    | some p =>
      dsimp only
      split
      · exact .inl ⟨_, rfl⟩
      · split
        · exact .inl ⟨_, rfl⟩
        · rename_i h1 h2 h3
          simp only [Config.pointEntries, Config.queueEntries] at h1 h3
          exact .inr ⟨p, by omega, by omega, hp, by simpa using h2, by omega, rfl⟩

/-- Put after the marked entries: what stands in the queue is the entry and the others (R43, R45). -/
theorem insertAfterMarked_perm (q : List QueueEntry) (e : QueueEntry) :
    (insertAfterMarked q e).Perm (e :: q) := by
  unfold insertAfterMarked
  have := List.takeWhile_append_dropWhile (p := fun k : QueueEntry => k.marked) (l := q)
  conv_rhs => rw [← this]
  exact List.perm_middle

/-! ## Time -/

/-- A Timebase put in force changes the Timebase, and beyond it only the TIME cause and the wait it reports to. -/
theorem State.setTimebase_time (s : State) (b : Timebase) (stepped : Bool) (e : Option EdgeReport) (t : Tick) :
    (s.setTimebase b stepped e t).time = b := by
  have key : ∀ (k : State) (c : Bool), (k.reportToWait c e t).time = k.time := by
    intro k c
    unfold State.reportToWait
    split
    · split
      · rfl
      · split
        · simp
        · split <;> simp
    · rfl
  unfold State.setTimebase
  rw [key]
  split <;> rfl

end Sys2Proof.Machine
end

