-- ==== Sys2Proof/Laws/Assess.lean ====
section
/-! SUPPORT. What the Assessment Unit's operations give, in the terms of the statements: proofs about results cite
these and do not unfold the operations. -/

namespace Sys2Proof.Machine

/-! ## Searching the channels and the inputs -/

/-- Some channel passes a test. -/
theorem Chan.any_all (p : Chan → Bool) : Chan.all.any p = true ↔ ∃ c, p c = true := by simp

/-- Some input passes a test. -/
theorem Inp.any_all (p : Inp → Bool) : Inp.all.any p = true ↔ ∃ n, p n = true := by simp

/-! ## The trip -/

/-- The measured time is the trip time (R116). -/
theorem ShotRecord.measured_eq (r : ShotRecord) : r.measured = r.tripTime := by
  unfold measured tripTime tripInstant Tick.before
  cases r.inception with
  | none => rfl
  | some i =>
    cases r.criterion with
    | none => rfl
    | some k => by_cases h : Tick.reached i k.timestamp = true <;> simp [h]

/-- The judged interval ends at the trip instant, or where PLAYING ends (R119). -/
theorem ShotRecord.judgedEnd_eq (r : ShotRecord) (t : Tick) : r.judgedEnd t = r.tripInstant.getD t := by
  unfold judgedEnd measured tripInstant Tick.before
  cases r.inception with
  | none => cases r.criterion <;> rfl
  | some i =>
    cases r.criterion with
    | none => rfl
    | some k => by_cases h : Tick.reached i k.timestamp = true <;> simp [h]

/-- A search shot tripped: the criterion's timestamp lies at or after inception, its qualifying sample at or before the
end of the fault state (R135). -/
theorem ShotRecord.tripped_iff (r : ShotRecord) (i : Tick) (h : r.inception = some i) :
    r.tripped = true ↔ ∃ m, r.criterion = some m ∧ Tick.reached i m.timestamp = true ∧
      ∀ e, r.faultEnd = some e → Tick.reached m.qualifying e = true := by
  unfold tripped measured
  rw [h]
  cases r.criterion with
  | none => simp
  | some k =>
    by_cases hk : Tick.reached i k.timestamp = true
    · cases r.faultEnd <;> simp [hk]
    · simp [hk]

/-! ## The doubts of delivery -/

/-- The compliance before a tick is that of the last change decided from inception on and before it, or the one
handed over at inception (R115, R120). -/
theorem ShotRecord.lostBefore_eq (r : ShotRecord) (c : Chan) (i t : Tick) :
    r.lostBefore c i t = r.stoodLost c i t := by
  have key : ∀ (l : List ComplianceChange) (b : Bool),
      l.foldl (fun lost k =>
        if k.channel = c ∧ Tick.reached i k.decision ∧ Tick.before k.decision t then k.lost else lost) b =
      match (l.filter fun k =>
          decide (k.channel = c) && Tick.reached i k.decision && Tick.before k.decision t).getLast? with
      | some k => k.lost
      | none => b := by
    intro l
    induction l with
    | nil => intro b; rfl
    | cons k rest ih =>
      intro b
      rw [List.foldl_cons, ih]
      by_cases hk : k.channel = c ∧ Tick.reached i k.decision = true ∧ Tick.before k.decision t = true
      · simp only [List.filter_cons, hk, decide_true, Bool.and_self, if_true, List.getLast?_cons, and_self]
        cases (rest.filter _).getLast? <;> rfl
      · have hf : (decide (k.channel = c) && Tick.reached i k.decision && Tick.before k.decision t) = false := by
          simpa [and_assoc] using hk
        simp only [List.filter_cons, hf, if_neg hk, Bool.false_eq_true, if_false]
  unfold lostBefore stoodLost
  rw [key]
  cases (r.changes.filter _).getLast? with
  | some k => rfl
  | none => cases r.complianceAtInception <;> rfl

/-- Delivery is in doubt by compliance as the statements say it (R120). -/
theorem ShotRecord.complianceDoubt_iff (r : ShotRecord) (i t : Tick) :
    r.complianceDoubt i t = true ↔ r.LostIn i t := by
  unfold complianceDoubt LostIn
  rw [Chan.any_all]
  simp [channelDoubt, lostBefore_eq, and_assoc]

/-- Once the notes of the state in play are handed over, delivery is in doubt by clamping as the statements say it
(R74, R119). -/
theorem State.clamped_iff (s : State) (i ended t : Tick) :
    (s.handNotes t).shot.clamped i ended = true ↔ s.ClampedIn i ended := by
  have notes : ∀ p : ClampNote → Bool, (s.gen.notesEnding t).any p = true ↔
      ∃ c e, (s.gen.synths.get c).clampNote = some e ∧ p { channel := c, entry := e, ended := t } = true := by
    intro p
    unfold Generator.notesEnding
    rw [List.any_filterMap, Chan.any_all]
    refine exists_congr fun c => ?_
    cases (s.gen.synths.get c).clampNote <;> simp
  unfold ShotRecord.clamped State.ClampedIn State.handNotes
  rw [List.any_append, Bool.or_eq_true, notes, List.any_eq_true]

/-- A monitored input operated before inception (R118). -/
theorem State.prefault_iff (s : State) (c : PointContent) : s.prefault c.monitored = true ↔ s.OperatedEarly c := by
  unfold prefault OperatedEarly
  rw [Inp.any_all]
  refine exists_congr fun n => ?_
  unfold TableEntry.beforeInception TableEntry.Early
  cases (s.inputs.get n).entry.operate <;> cases s.shot.inception <;> simp

/-! ## The operated-inputs list -/

/-- An entry counts as operated before inception as the statements say it, where it has an operate tick (R118). -/
theorem TableEntry.beforeInception_iff (e : TableEntry) (i : Option Tick) (h : e.operate.isSome) :
    e.beforeInception i = true ↔ e.Early i := by
  unfold beforeInception Early
  cases ho : e.operate with
  | none => simp [ho] at h
  | some o => cases i <;> simp

/-- Inserting keeps what the list holds. -/
theorem mem_insertOperated (e k : OperatedEntry) (l : List OperatedEntry) :
    k ∈ insertOperated e l ↔ k = e ∨ k ∈ l := by
  induction l with
  | nil => simp [insertOperated]
  | cons a rest ih =>
    unfold insertOperated
    split
    · simp
    · simp only [List.mem_cons, ih]; tauto

/-- Inserting an entry whose number is above those of the list keeps the order (R125). -/
theorem insertOperated_sorted (e : OperatedEntry) (l : List OperatedEntry)
    (hl : l.Pairwise fun a b => a.operate < b.operate ∨ a.operate = b.operate ∧ a.input.number < b.input.number)
    (hn : ∀ k ∈ l, k.input.number < e.input.number) :
    (insertOperated e l).Pairwise fun a b =>
      a.operate < b.operate ∨ a.operate = b.operate ∧ a.input.number < b.input.number := by
  induction l with
  | nil => simp [insertOperated]
  | cons a rest ih =>
    rw [List.pairwise_cons] at hl
    unfold insertOperated
    split
    · rename_i h
      refine List.pairwise_cons.2 ⟨fun k hk => .inl ?_, List.pairwise_cons.2 hl⟩
      rcases List.mem_cons.1 hk with rfl | hk
      · exact h
      · rcases hl.1 k hk with h' | h' <;> omega
    · rename_i h
      refine List.pairwise_cons.2 ⟨fun k hk => ?_, ih hl.2 fun k hk => hn k (List.mem_cons_of_mem _ hk)⟩
      rcases (mem_insertOperated _ _ _).1 hk with rfl | hk
      · have := hn a List.mem_cons_self
        omega
      · exact hl.1 k hk

/-- The operated-inputs list is the one of the statements (R125). -/
theorem State.operatedList_listed (s : State) : s.OperatedListed s.operatedList := by
  have fold : ∀ (es l : List OperatedEntry),
      (es.Pairwise fun a b => a.input.number < b.input.number) →
      (∀ a ∈ l, ∀ b ∈ es, a.input.number < b.input.number) →
      (l.Pairwise fun a b => a.operate < b.operate ∨ a.operate = b.operate ∧ a.input.number < b.input.number) →
      let r := es.foldl (fun list e => insertOperated e list) l
      (∀ k, k ∈ r ↔ k ∈ l ∨ k ∈ es) ∧
      r.Pairwise fun a b => a.operate < b.operate ∨ a.operate = b.operate ∧ a.input.number < b.input.number := by
    intro es
    induction es with
    | nil => intro l _ _ h; simpa using h
    | cons e es ih =>
      intro l he hl h
      rw [List.pairwise_cons] at he
      obtain ⟨h1, h2⟩ := ih (insertOperated e l) he.2
        (fun a ha b hb => by
          rcases (mem_insertOperated _ _ _).1 ha with rfl | ha
          · exact he.1 b hb
          · exact hl a ha b (List.mem_cons_of_mem _ hb))
        (insertOperated_sorted e l h fun k hk => hl k hk e List.mem_cons_self)
      refine ⟨fun k => ?_, h2⟩
      rw [List.foldl_cons, h1, mem_insertOperated, List.mem_cons]
      tauto
  have numbers : (Inp.all.filterMap fun n => operatedEntry s.shot.inception n (s.inputs.get n).entry).Pairwise
      fun a b => a.input.number < b.input.number := by
    refine List.Pairwise.filterMap (R := fun a b : Inp => a.number < b.number) _ ?_ (by decide)
    intro a b h x hx y hy
    unfold operatedEntry at hx hy
    obtain ⟨_, _, rfl⟩ := Option.map_eq_some_iff.1 hx
    obtain ⟨_, _, rfl⟩ := Option.map_eq_some_iff.1 hy
    exact h
  obtain ⟨members, order⟩ := fold _ [] numbers (by simp) List.Pairwise.nil
  have members : ∀ k, k ∈ s.operatedList ↔ ∃ n, operatedEntry s.shot.inception n (s.inputs.get n).entry = some k := by
    intro k
    have := members k
    simpa [State.operatedList] using this
  refine ⟨fun n => ?_, fun e he => ?_, order⟩
  · simp only [members, operatedEntry]
    constructor
    · rintro ⟨e, ⟨m, hm⟩, rfl⟩
      obtain ⟨o, ho, rfl⟩ := Option.map_eq_some_iff.1 hm
      simp [ho]
    · intro h
      obtain ⟨o, ho⟩ := Option.isSome_iff_exists.1 h
      exact ⟨_, ⟨n, by rw [ho]; rfl⟩, rfl⟩
  · obtain ⟨n, hn⟩ := (members e).1 he
    obtain ⟨o, ho, rfl⟩ := Option.map_eq_some_iff.1 hn
    have early := TableEntry.beforeInception_iff (s.inputs.get n).entry s.shot.inception (by simp [ho])
    constructor
    · intro h
      have := early.2 h
      rw [this]
      cases hi : s.shot.inception <;> cases (s.inputs.get n).entry.release <;> simp [listTime]
    · intro i h hi
      have : (s.inputs.get n).entry.beforeInception s.shot.inception = false := by
        cases hb : (s.inputs.get n).entry.beforeInception s.shot.inception
        · rfl
        · exact absurd (early.1 hb) h
      rw [this]
      cases (s.inputs.get n).entry.release <;> simp [ho, listTime, hi]

end Sys2Proof.Machine
end

