-- ==== Sys2Proof/Tests/Slice0.lean ====
section
/-! SUPPORT. The model's own tests: small states, the commands' refusals of ill-formed terms, worked values and
worked sequences of spec/, and for every statement with hypotheses a witness that meets them. -/

namespace Sys2Proof.Tests

/- One theorem at a time: `decide +kernel` waits for all theorems before it, each on a thread of its own. -/
set_option Elab.async false

open Sys2Proof Sys2Proof.Machine

/-! ## Helpers -/

/-- What holds of the next state a command gives. -/
def next (c : Instr) (s : State) (p : State → Bool) : Bool :=
  match exec c s with
  | .next u => p u
  | .fault _ => false
  | .refused _ => false

/-- Commands one after another. -/
def run : List Instr → State → State
  | [], s => s
  | c :: rest, s =>
    match exec c s with
    | .next u => run rest u
    | .fault _ => s
    | .refused _ => s

/-- V1 to V3 at 57.74 V, I1 to I3 at a current, VX and IX at 0, all at 50 Hz. -/
def settings (amps : Nat) : PerChannel ChannelSetting :=
  let v : ChannelSetting := { amplitude := 5774, angle := 0, frequency := 50000 }
  let i : ChannelSetting := { amplitude := amps, angle := 0, frequency := 50000 }
  { v1 := v, v2 := v, v3 := v, vx := { v with amplitude := 0 }, i1 := i, i2 := i, i3 := i, ix := { i with amplitude := 0 } }

def rawState (amps duration endCondition inception theta : Nat) : RawState :=
  { settings := settings amps, outputs := 0, duration := duration, endCondition := endCondition
    inception := inception, theta := theta }

def content (amps duration : Nat) (e : EndCondition) (i : Inception) : StateContent :=
  { settings := settings amps, outputs := 0, duration := duration, endCondition := e, inception := i }

def record (amps duration : Nat) (e : EndCondition) (i : Inception) (count : Nat) : StateRecord :=
  { editLevel := 0, content := content amps duration e i, refCount := count }

/-- The two-point curve of spec/02, A two-point curve. -/
def rawCurve : RawCurve := { quantity := 0, pickup := 1000, breakpoints := [(5000, 4280000), (6000, 3837000)] }

def curve : Characteristic :=
  { editLevel := 0, content := { quantity := .phaseMax, pickup := 1000, breakpoints := rawCurve.breakpoints }
    revision := 7, refCount := 1 }

/-- The SHOT test point of spec/11, Session 1, as its request carries it. -/
def rawShot : RawPoint :=
  { tag := 0x00010001, kind := 0, faultPosition := 2, startMode := 0, day := 0, second := 0, offset := 0
    monitored := 1, combine := 0, expectation := 2, expectedTime := 0, characteristic := 1, tolerancePercent := 50
    toleranceAbsolute := 40000, varied := 0, lower := 0, upper := 0, resolution := 0, maximumShots := 0, policy := 0
    boundary := 0, searchPercent := 0, searchAbsolute := 0, states := [1, 2, 3] }

/-- The SEARCH test point of spec/08, Worked search, as its request carries it. -/
def rawSearch : RawPoint :=
  { rawShot with
    tag := 7, kind := 1, expectation := 0, varied := 0x70, lower := 800, upper := 1600, resolution := 20
    maximumShots := 12, policy := 0, boundary := 1050, searchPercent := 30, searchAbsolute := 20 }

def shotContent : PointContent :=
  { tag := 0x00010001, kind := .shot (.curve 1) 50 40000, states := [1, 2, 3], faultPosition := 2
    start := .immediate, monitored := 1, combine := .any }

def params : SearchParams :=
  { varied := 0x70, lower := 800, upper := 1600, resolution := 20, maximumShots := 12, policy := .suspend
    boundary := 1050, tolerancePercent := 30, toleranceAbsolute := 20 }

def searchContent : PointContent := { shotContent with tag := 7, kind := .search params }

def point (c : PointContent) (status : Status) (context : Option SearchContext) (result : Option Result) : TestPoint :=
  { editLevel := 0, content := c, status := status, context := context, result := result }

/-- A PASS with the band of spec/11, Session 2. -/
def passed : Result :=
  { verdict := .pass, reason := none
    flags := { prefault := false, clamped := false, compliance := false, shortWindow := false, timeHoldover := false
               stale := false, unread := true }
    measured := some 4151230, expected := some { time := 4102800, low := 3897660, high := 4307940 }
    multiple := some 5400, revision := some 7, skew := none, runCount := 1
    operated := [{ input := .bi1, operate := 4151230, release := some 4300000 }], search := none }

/-- A search context in bisection. -/
def midway : SearchContext := { phase := .bisect, lower := 1000, upper := 1100, shotsUsed := 5 }

/-- Three states, a characteristic, a SHOT test point with a result and a SEARCH test point. -/
def plan (shot search : Status) (context : Option SearchContext) : State :=
  { State.reset with
    states := [(1, record 500 1000000 .time .continuous 2), (2, record 5400 6000000 .input .continuous 2),
      (3, record 0 500000 .time .continuous 2)]
    curves := [(1, curve)]
    points := [(1, point shotContent shot none (some passed)), (2, point searchContent search context none)] }

/-- The plan at rest. -/
def planned : State := plan .idle .idle none

/-- A snapshot of a state record of the plan. -/
def inForce (h : Nat) (c : StateContent) : Option Snapshot := some { handle := h, content := c }

/-- A shot in play in its state `position` since tick 1,000,000, with the SHOT test point ACTIVE or the SEARCH. -/
def shotOf (handle position : Nat) (c : StateContent) : State :=
  let s := if handle = 1 then plan .active .idle none else plan .idle .active (some midway)
  { s with
    tick := 1000000
    run := { s.run with active := some handle
                        state := .playing { stage := .inPlay position 1000000, fault := none } }
    gen := { s.gen with snapshot := inForce position c, instant := some 1000000 }
    shot := { s.shot with started := 500000, inception := if position = 1 then none else some 1000000
                          working := if handle = 1 ∧ position ≠ 1 then some .unjudged else none } }

/-- The criterion qualified 200 ticks into the state in play. -/
def tripped (s : State) : State :=
  { s with tick := 1000200, shot := { s.shot with criterion := some { qualifying := 1000200, timestamp := 1000010 } } }

/-- A LOCKED Timebase of spec/09, Worked sequences: second edge at 9,000,250, interval 1,000,038. -/
def locked : State :=
  { State.reset with
    tick := 9000250
    time := { Timebase.reset with
      lock := .locked, reference := some 9000250, history := [1000036, 1000036, 1000036, 1000042]
      label := some { day := 812, second := 43199, quality := 3 } } }

/-! ## Commands that cannot arrive -/

theorem test_wellFormed_refuses_transactions :
    [Instr.fetch 0, .status 0, .unknownKind 0x5A 0, .unknownKind 0xA5 1, .unknownKind 0x3C 2].all
      (fun i => !i.wellFormed) = true := by decide

theorem test_wellFormed_refuses_handles :
    [Instr.pointGet 256, .pointDrop 256, .stateGet 256, .stateDrop 256, .curveGet 256, .curveDrop 256, .resultGet 256,
      .resultDrop 256, .queueAdd 256, .queueFirst 256, .queueRemove 256, .pointFind (2 ^ 32)].all
      (fun i => !i.wellFormed) = true := by decide

theorem test_wellFormed_refuses_records :
    [Instr.pointNew 256 rawShot, .pointNew 0 { rawShot with day := 65536 }, .pointSet 1 { rawShot with expectedTime := 2 ^ 32 },
      .pointSet 1 { rawSearch with lower := 65536 }, .stateNew 256 (rawState 0 100 0 0 0),
      .stateNew 0 (rawState 65536 100 0 0 0), .stateSet 1 (rawState 0 (2 ^ 32) 0 0 0),
      .curveNew 256 rawCurve, .curveNew 0 { rawCurve with pickup := 65536 },
      .curveSet 1 { rawCurve with breakpoints := [(0, 2 ^ 32)] }].all (fun i => !i.wellFormed) = true := by decide +kernel

theorem test_wellFormed_refuses_stateLoad :
    [Instr.stateLoad 2 [(0, rawState 0 100 0 0 0)], .stateLoad 0 [(0, rawState 0 100 0 0 0)],
      .stateLoad 1 [(256, rawState 0 100 0 0 0)], .stateLoad 256 []].all (fun i => !i.wellFormed) = true := by
  decide +kernel

theorem test_wellFormed_refuses_settings :
    [Instr.runSetup 65536 0 0, .runSetup 0 65536 0, .runSetup 0 0 256, .chanSet 256 ⟨1, 1, 1, 1, 1⟩,
      .chanSet 1 ⟨65536, 1, 1, 1, 1⟩, .chanGet 256, .chanUnmute 256, .chanService 256, .inputSet 1 ⟨0, 0, 0, 256, 0⟩,
      .inputGet 256, .outputIdleSet 256, .timeSet 65536 1 1, .levelStep 256].all (fun i => !i.wellFormed) = true := by
  decide

theorem test_wellFormed_refuses_instants :
    [Instr.shotAbort 10, .runReset 1, .shotStart 30, .stateDurationEnd 7, .restEnd 50, .windowEstimate 10 .v1 0,
      .operate 5 .bi1, .release 15 .bi1, .sensedLevelChange 1 .bi1 true 0, .amplifierFaultAssertion 9 .v1,
      .faultLineDeassertion 11 .v1, .inputSample 25 0 (PerInput.of fun _ => 0),
      .generatorInstant 10 (PerChannel.byKind 0 0), .inputStateEnd 1, .pointOnWaveInception 1,
      .resetWaitLimitExpiry 1, .amplifierAbort 1, .timeLostAbort 1].all (fun i => !i.wellFormed) = true := by decide +kernel

theorem test_wellFormed_accepts :
    [Instr.fetch 1, .unknownKind 0x00 0, .pointNew 0 rawShot, .pointNew 2 rawSearch, .curveNew 0 rawCurve,
      .stateLoad 1 [(0, rawState 32000 100 1 1 35999)], .stateLoad 0 [], .shotAbort 20, .operate 10 .bi10].all
      (fun i => i.wellFormed) = true := by decide +kernel

/-- The table gives no row any bits. -/
theorem test_no_word_spells_a_command (nbits w : Nat) : decodeTableWord nbits w = none := rfl

/-! ## Worked values -/

/-- spec/04, R67 and R68: 50 Hz and 16.7 Hz; 90 and 120 degrees. -/
theorem test_phase_values :
    phaseStep 50000 = 4294967 ∧ phaseStep 16700 = 1434519 ∧ phaseOf 9000 = 1073741824 ∧ phaseOf 12000 = 1431655765 := by
  decide +kernel

/-- spec/04, Samples of one channel. -/
theorem test_samples_of_one_channel :
    peakCode 5400 8000 = 22118 ∧ sine 512 = 46341 ∧ sine 1024 = 65536 ∧ sine 3072 = -65536 ∧
      sampleAt 22118 0 = 0 ∧ sampleAt 22118 536870912 = 15640 ∧ sampleAt 22118 1073741824 = 22118 ∧
      sampleAt 22118 3221225472 = -22118 := by decide +kernel

/-- spec/04, A deferred fault state: the 785th step meets the target, the 784th does not. -/
theorem test_deferral_meets_on_its_step :
    onArc (2000000000 + 4294967 * 784) (2000000000 + 4294967 * 785) 1073741824 = true ∧
      onArc (2000000000 + 4294967 * 783) (2000000000 + 4294967 * 784) 1073741824 = false := by decide +kernel

/-- spec/05, Compliance lost into a high burden: the estimates and ratios of its table. -/
theorem test_level_estimates :
    windowSamples 50000 = 500 ∧ levelEstimate 6518500 32000 500 = 19999 ∧ levelEstimate 5700000 32000 500 = 17487 ∧
      levelEstimate 6000000 32000 500 = 18408 ∧ levelEstimate 5500000 32000 500 = 16874 ∧
      levelRatio 19999 20000 = 999 ∧ levelRatio 17487 20000 = 874 ∧ levelRatio 16874 20000 = 843 := by decide +kernel

/-- spec/02, A six-point curve: its runs a to g but the one below pickup, then that one. -/
theorem test_six_point_curve :
    let k := [(1100, 30000000), (2000, 10030000), (3000, 6300000), (5000, 4280000), (10000, 2970000), (20000, 2240000)]
    expectedTime k 2500 = some 8165000 ∧ expectedTime k 2550 = some 7978500 ∧ expectedTime k 1100 = some 30000000 ∧
      expectedTime k 22500 = some 2240000 ∧ expectedTime k 5000 = some 4280000 ∧ expectedTime k 1075 = none ∧
      multipleOf 32000 400 = 65535 := by decide +kernel

/-- spec/02, Rounding on a steep, short segment, and the edges of the bands. -/
theorem test_rounding_and_bands :
    [2000, 2001, 2003, 2005, 2009, 2010].map (expectedTime [(2000, 700005), (2010, 700000)]) =
        [some 700005, some 700004, some 700003, some 700002, some 700000, some 700000] ∧
      bandAround 30000 100 50000 = { time := 30000, low := 0, high := 80000 } ∧
      bandAround 2999 250 0 = { time := 2999, low := 2250, high := 3748 } ∧
      bandAround 7978500 75 40000 = { time := 7978500, low := 7380113, high := 8576887 } := by decide +kernel

/-- spec/08, Worked search: from shot 3 to the boundary 1,075 in shot 8. -/
theorem test_worked_search :
    let shot := fun (n : SearchNext) (trip : Bool) =>
      match n with
      | .goOn c => searchStep params c trip false
      | .finish v c b => .finish v c b
    [true, false, true, false, true, false, true, false].foldl shot (.goOn params.firstContext) =
      .finish .pass { phase := .bisect, lower := 1062, upper := 1075, shotsUsed := 8 } (some 1075) := by decide +kernel

/-- spec/09, A scheduled start, and the lead over the wrap of the day count. -/
theorem test_scheduled_start :
    startTickOf 7812345678 250000 1000036 = (7812595700, 13) ∧ leadOver (secondCount 812 43300) (secondCount 812 43297) = 3 ∧
      leadOver (secondCount 0 0) (secondCount 65535 86399) = 1 := by decide +kernel

/-- The published check value of this CRC (CRC-16/GENIBUS) over the digits 1 to 9. -/
theorem test_crc_check_value : crcOf [0x31, 0x32, 0x33, 0x34, 0x35, 0x36, 0x37, 0x38, 0x39] = 0xD64E := by decide +kernel

/-! ## Worked sequences, one step each -/

/-- spec/11, Session 1: POINT_NEW takes handle 1 and counts its references. -/
theorem test_point_new :
    next (.pointNew 2 rawShot) { planned with points := [] } (fun u =>
      (u.points.at? 1).map (fun p => (p.editLevel, p.content)) = some (2, shotContent) ∧
        (u.curves.at? 1).map (fun k => k.refCount) = some 2) = true := by decide +kernel

/-- spec/11, Session 1: at level 1, STATE_SET of a level-0 record is DENIED and CURVE_DROP is DENIED before IN_USE. -/
theorem test_authority_before_references :
    let s := { planned with level := 1 }
    next (.stateSet 2 (rawState 0 100 0 0 0)) s (fun u => u.port.response = frameOf 0x26 []) = true ∧
      next (.curveDrop 1) s (fun u => u.port.response = frameOf 0x26 []) = true ∧
      next (.levelStep 0) s (fun u => u.port.response = frameOf 0x26 []) = true := by decide +kernel

/-- spec/11, Session 2: QUEUE_ADD 1 at tick 19,999,993 leads to PLAYING with start instant 20,000,000. -/
theorem test_queue_add_takes_the_head :
    next (.queueAdd 1) { planned with tick := 19999993 } (fun u => u.run.active = some 1 ∧
      u.run.state = .playing { stage := .ready 20000000, fault := none }) = true := by decide +kernel

/-- spec/11, Session 2: inception at 21,000,000 forms M 5,400 and the band 3,897,660 to 4,307,940. -/
theorem test_inception_values :
    next (.stateDurationEnd 2000000) (shotOf 1 1 (content 500 1000000 .time .continuous)) (fun u =>
      u.shot.inception = some 2000000 ∧
        u.shot.working = some (.curve 5400 7 { time := 4102800, low := 3897660, high := 4307940 })) = true := by
  decide +kernel

/-- spec/11, Session 2: the criterion qualifies at an instant, and the state ends at the next one (R57). -/
theorem test_input_state_ends_one_instant_later :
    let s := tripped (shotOf 1 2 (content 5400 6000000 .input .continuous))
    next (.inputStateEnd 1000200) s (fun u => u.run.state = s.run.state) = true ∧
      next (.inputStateEnd 1000220) s (fun u =>
        u.run.state = .playing { stage := .inPlay 3 1000220, fault := none }) = true := by decide +kernel

/-- spec/11, Session 4: the abort instant posts ABORTED with AMPLIFIER and enters REST; the run count stays. -/
theorem test_amplifier_abort :
    let s := shotOf 1 2 (content 5400 6000000 .input .continuous)
    next (.amplifierAbort 1000020) { s with run := { s.run with
        state := .playing { stage := .inPlay 2 1000000, fault := some 1000010 } } } (fun u =>
      u.run.state = .rest 1000020 1000 false none ∧
        ((u.points.at? 1).bind fun p => p.result).map (fun r => (r.verdict, r.reason, r.runCount)) =
          some (.aborted, some .amplifier, 1)) = true := by decide +kernel

/-- R144: an amplifier fault whose abort instant is the shot end of a search shot, the shot end taken first: the shot
moves L to the trial, and the abort ends the search in REST with that context; on a SHOT test point it finds none. -/
theorem test_amplifier_abort_after_a_search_shot_end :
    let faulted := fun s : State => { s with run := { s.run with
      state := .playing { stage := .inPlay 3 1000000, fault := some 1000090 } } }
    next (.amplifierAbort 1000100) (run [.stateDurationEnd 1000100] (faulted (shotOf 2 3 (content 0 100 .time .continuous))))
      (fun u => u.run.state = .rest 1000100 1000 false none ∧ u.run.active = none ∧
        ((u.points.at? 2).bind fun p => p.result).map (fun r => (r.reason, r.search)) = some (some .amplifier,
          some { lower := 1050, upper := 1100, boundary := none, shotsUsed := 6 })) = true ∧
    next (.amplifierAbort 1000100) (run [.stateDurationEnd 1000100] (faulted (shotOf 1 3 (content 0 100 .time .continuous))))
      (fun u => ((u.points.at? 1).bind fun p => p.result).map (fun r => r.reason) = some none) = true := by decide +kernel

/-- R144: a search aborted after its trip carries the doubt of a LOST decided between the trip and the abort. -/
theorem test_aborted_search_is_judged_to_the_abort :
    let s := tripped (shotOf 2 2 (content 5400 6000000 .input .continuous))
    let lost := { s with shot := { s.shot with changes := [{ channel := .i1, lost := true, decision := 1000100 }] } }
    next (.shotAbort 1000200) lost (fun u => ((u.points.at? 2).bind fun p => p.result).map
      (fun r => r.flags.compliance) = some true) = true := by decide +kernel

/-- R177: PPS found high at tick 0 is no rise, and neither is a level found there; a fault line found asserted counts
only after it has been found deasserted. -/
theorem test_lines_found_at_tick_0 :
    next (.deviceReset ⟨0x01, true⟩) locked (fun s =>
      next (.pulse 0) s (fun u => u.time.lock = .free) && next (.pulse 1) s (fun u => u.time.lock = .free)
        && next (.pulse 2) s (fun u => u.time.lock = .acquiring)
        && next (.amplifierFaultAssertion 10 .v1) s (fun u => u.channels.v1.overloads = 0)
        && next (.amplifierFaultAssertion 20 .v1) (run [.faultLineDeassertion 10 .v1] s)
          (fun u => u.channels.v1.overloads = 1)) = true ∧
      next (.pulse 1) State.reset (fun u => u.time.lock = .acquiring) = true := by decide +kernel

/-- R162: the first byte decides the kind of a transaction. -/
theorem test_first_byte_decides :
    [[], [0x5A, 0x61, 0x00], [0xA5, 0xFF], [0x3C], [0x00, 0x5A]].map transactionOf =
      [none, some (.send [0x61, 0x00]), some (.fetch 2), some (.status 1), some (.unknownKind 0x00 1)] := by decide +kernel

/-- spec/05, An amplifier trips mid-shot: the third overload takes the channel out of service and mutes it. -/
theorem test_fault_assertion :
    let s := { State.reset with channels := State.reset.channels.update .i2 fun k => { k with overloads := 2 } }
    next (.amplifierFaultAssertion 60123450 .i2) s (fun u =>
      (u.channels.i2.mute, u.channels.i2.overloads, u.channels.i2.fit, u.port.channel) = (true, 3, false, true)) =
      true := by decide +kernel

/-- spec/06, Hysteresis on a wet input: between the thresholds the memory decides, and the third sample qualifies. -/
theorem test_wet_input :
    let i : Input := { Input.reset with
      config := { mode := .wet 80 30, samples := 3, inverted := false }, wetMemory := true
      qualification := .pendingOn 1 7000020 }
    let s := { State.reset with inputs := State.reset.inputs.update .bi6 fun _ => i }
    next (.inputSample 7000030 0 (PerInput.of fun _ => 60)) s (fun u =>
      u.inputs.bi6.qualification = .pendingOn 2 7000020) = true ∧
    next (.inputSample 7000030 0 (PerInput.of fun _ => 25)) s (fun u => u.inputs.bi6.qualification = .inactive) =
      true := by decide +kernel

/-- spec/06: the 20th sample qualifies an operate back-dated to the first (spec/11, Session 2). -/
theorem test_operate_is_back_dated :
    let i : Input := { Input.reset with qualification := .pendingOn 19 25151230 }
    let s := { State.reset with inputs := State.reset.inputs.update .bi1 fun _ => i }
    next (.operate 25151420 .bi1) { s with run := { s.run with
        state := .playing { stage := .inPlay 1 21000000, fault := none } } } (fun u =>
      u.inputs.bi1.qualification = .active ∧ u.inputs.bi1.entry.operate = some 25151230) = true := by decide +kernel

/-- spec/09, Acquiring and holding lock: the pulse outside the window, and the missed edge one tick early and in time. -/
theorem test_lock_sequence :
    next (.pulse 9400000) locked (fun u => u.time.spurious = 1 ∧ u.time.lock = .locked) = true ∧
      next (.missedEdge 10000488) locked (fun u => u.time = locked.time) = true ∧
      next (.missedEdge 10000489) locked (fun u => u.time.missed = 1 ∧ u.time.reference = some 10000288 ∧
        u.time.label = some { day := 812, second := 43200, quality := 3 }) = true := by decide +kernel

/-- spec/09: the fourth pulse in a row locks; the one before only counts. -/
theorem test_fourth_pulse_locks :
    let b := { locked.time with lock := .acquiring, reference := some 7000172, history := [1000036, 1000036] }
    next (.pulse 8000208) { locked with tick := 7000172, time := { b with acquisition := 3 } } (fun u =>
      u.time.lock = .locked ∧ u.port.time = true) = true ∧
    next (.pulse 8000208) { locked with tick := 7000172, time := { b with acquisition := 2 } } (fun u =>
      u.time.lock = .acquiring ∧ u.time.acquisition = 3) = true := by decide +kernel

/-- R162 to R166: a frame sent in READY is dispatched, executed with the queue empty, and its answer fetched. -/
theorem test_send_execute_fetch :
    let ask := frameOf 0x61 []
    next (.send ask) State.reset (fun u => u.port.link = .working ∧ u.port.inHand = some .deviceInfo) = true ∧
      next (.fetch 8) (run [.send ask, .deviceInfo] State.reset) (fun u =>
        u.port.link = .ready ∧ u.port.shifted = 0x03 :: frameOf 0 [0x62, 0x08, 0x01]) = true := by decide +kernel


/-! ## Witnesses: the hypotheses of each statement are met -/

/-- A queue of marked and unmarked entries at rest, held. -/
def held : State :=
  { plan .queued .queued none with
    run := { RunController.reset with
      hold := true, queue := [{ handle := 1, marked := true }, { handle := 2, marked := false }] } }

theorem witness_StepRunsTheFrontCommand :
    { State.reset with pending := [Instr.runHold, .runHold] }.pending = Instr.runHold :: [.runHold] ∧
      { State.reset with port := { Port.reset with inHand := some .timeGet } }.pending = [] ∧
      { State.reset with port := { Port.reset with inHand := some .timeGet } }.port.inHand = some .timeGet ∧
      State.reset.port.inHand = none := by decide

theorem witness_DeviceResetRestoresEveryBlock :
    (0x80 : BitVec 8).getLsbD (Chan.ix.number - 1) = true ∧ Tick.reached 0 (2 ^ 47 - 1 : Nat) = true ∧
      Tick.reached 0 0 = true := by decide +kernel

theorem witness_SendOfAWholeFrameIsDispatched :
    State.reset.port.link = .ready ∧ 255 < 256 ∧ (List.replicate 240 (0 : Byte)).length ≤ 240 ∧
      readRequest 0 255 (List.replicate 240 0) = .unknownCommand ∧ readRequest 0 0x14 (List.replicate 240 0) = .badLength ∧
      readRequest 0 0x14 [] = .request .pointList := by decide +kernel

theorem witness_FaultyFramesAndTransactionsExecuteNothing :
    let cut : List Byte := [0x10, 1, 0, 0]
    let long : List Byte := 0x10 :: 241 :: List.replicate 243 0
    let excess : List Byte := frameOf 0x14 [] ++ [0]
    let wrong : List Byte := [0x14, 0, 0, 0]
    State.reset.port.link = .ready ∧ cut.length < 4 + (cut.getD 1 0).toNat ∧
      (4 + (long.getD 1 0).toNat ≤ long.length ∧ 240 < (long.getD 1 0).toNat) ∧
      (4 ≤ excess.length ∧ 4 + (excess.getD 1 0).toNat < excess.length) ∧
      (4 + (wrong.getD 1 0).toNat ≤ wrong.length ∧ valueOf ((wrong.drop 2).take 2) ≠ (crcOf (wrong.take 2)).toNat) ∧
      { Port.reset with link := .working }.link ≠ .ready ∧
      ((0 : Byte) ≠ 0x5A ∧ (0 : Byte) ≠ 0xA5 ∧ (0 : Byte) ≠ 0x3C) := by decide +kernel

theorem witness_FetchReturnsTheResponse :
    let s := (State.reset.port.answered 0 [1])
    (s.link = .answer ∧ s.response.length < 6 ∧ 1 ≤ 6) ∧ (s.link = .answer ∧ 5 ≤ s.response.length) ∧
      State.reset.port.link ≠ .answer := by decide +kernel

theorem witness_PayloadsAreReadAsTheyAreSent :
    checkState (rawState 32000 600000000 1 1 35999) = some (content 32000 600000000 .input (.angle 35999)) ∧
      checkCurve rawCurve = some curve.content ∧
      (planned.states.wf 192 = true ∧ planned.curves.wf 16 = true ∧
        checkPoint planned.states planned.curves rawShot = some shotContent ∧
        checkPoint planned.states planned.curves rawSearch = some searchContent) ∧
      ([0] : List Byte) ≠ [] ∧ (0 = 0 ∨ 3 < 0) ∧ 3 < 4 ∧ (1 ≤ 1 ∧ 3 ≤ 3) ∧
      (0x0F < 0x10 ∧ 0x20 < 0x21 ∧ 0x2F < 0x30 ∧ 0x38 < 0x39 ∧ 0x3F < 0x40 ∧ 0x46 < 0x47 ∧ 0x4F < 0x50 ∧ 0x51 < 0x52 ∧
        0x5F < 0x60 ∧ 0x61 < 0x62) ∧
      readRequest 20 0x37 [] = .request (.shotAbort 20) ∧ readRequest 20 0x34 [0, 0, 0, 0] = .badLength ∧
      readRequest 20 0x44 [9, 1, 0, 80, 0, 30, 3, 1] = .request (.inputSet 9 ⟨1, 80, 30, 3, 1⟩) := by
  decide +kernel

theorem witness_ResultRecordLayout :
    let r := { passed with
      runCount := 255, measured := some 4294967295, skew := some 19, multiple := some 65535, revision := some 65535
      operated := [⟨.bi10, 4294967295, some 4294967295⟩], search := some (SearchFields.mk 31999 32000 (some 32000) 40) }
    (r.runCount < 256 ∧ r.skew.getD 0 < 256 ∧ r.measured.getD 0 < 2 ^ 32 ∧
      (∀ e, r.expected = some e → e.time < 2 ^ 32 ∧ e.low < 2 ^ 32 ∧ e.high < 2 ^ 32) ∧ r.multiple.getD 0 < 65536 ∧
      r.revision.getD 0 < 65536 ∧
      (∀ f, r.search = some f → f.lower < 65536 ∧ f.upper < 65536 ∧ f.boundary.getD 0 < 65536 ∧ f.shotsUsed < 256) ∧
      r.operated.length ≤ 10) ∧
    (r.operated[0]? = some ⟨.bi10, 4294967295, some 4294967295⟩ ∧ 4294967295 < 2 ^ 32) := by
  simp [passed]

/-- The tables of the plan hold each handle once and each tag once. -/
theorem planned_tables (a b : Status) (c : Option SearchContext) : TablesInv (plan a b c) := by
  refine ⟨rfl, rfl, rfl, ?_, ?_⟩
  · intro h p k q hp hq
    simp only [plan, Table.at?] at hp hq
    split at hp <;> split at hq <;> (try split at hp) <;> (try split at hq) <;>
      simp_all [point, shotContent, searchContent] <;> subst_vars <;> simp_all
  · intro h p hp
    simp only [plan, Table.at?] at hp
    split at hp <;> (try split at hp) <;> simp_all [point, shotContent, searchContent] <;> subst_vars <;> simp

theorem witness_PointFindAnswersTheHolder :
    TablesInv planned ∧ planned.points.at? 2 = some (point searchContent .idle none none) ∧
      next (.pointDrop 2) planned (fun u => u.points.at? 2 = none) = true ∧
      next (.pointSet 2 { rawSearch with tag := 4294967295 }) planned
        (fun u => (u.points.at? 2).map (fun q => q.content.tag) = some 4294967295) = true :=
  ⟨planned_tables .idle .idle none, by decide +kernel, by decide +kernel, by decide +kernel⟩

theorem witness_LookupsAnswerAndChangeNothing :
    (planned.points.at? 1 = some (point shotContent .idle none (some passed)) ∧ planned.states.wf 192 = true ∧
        planned.curves.wf 16 = true ∧ checkPoint planned.states planned.curves rawShot = some shotContent) ∧
      ((plan .idle .active (some midway)).points.at? 2 = some (point searchContent .active (some midway) none) ∧
        checkPoint planned.states planned.curves rawSearch = some searchContent ∧ midway.upper < 65536) ∧
      planned.states.at? 1 = some (record 500 1000000 .time .continuous 2) ∧ planned.curves.at? 1 = some curve ∧
      (planned.channels.get .v1).inv .v1 false ∧ (planned.inputs.get .bi1).inv false ∧
      (planned.inputs.get .bi1).qualification.run < 256 :=
  ⟨by decide +kernel, by decide +kernel, by decide +kernel, by decide +kernel,
    ⟨by unfold ChannelConfig.valid; decide, nofun, by decide, by decide, by decide, fun _ => by decide⟩,
    ⟨⟨by decide, by decide, trivial⟩, nofun, by decide, nofun, nofun⟩, by decide⟩

theorem witness_CreatesTakeTheLowestAbsentHandle :
    let s := { planned with points := [(1, point searchContent .idle none none)] }
    2 ≤ 2 ∧ checkPoint s.states s.curves rawShot = some shotContent ∧ (∀ e ∈ s.points, e.2.content.tag ≠ shotContent.tag) ∧
      s.points.at? 2 = none ∧ (∀ k, 1 ≤ k → k < 2 → (s.points.at? k).isSome) ∧
      checkState (rawState 0 100 0 0 0) = some (content 0 100 .time .continuous) ∧ s.states.at? 4 = none ∧
      (∀ k, 1 ≤ k → k < 4 → (s.states.at? k).isSome) ∧ checkCurve rawCurve = some curve.content ∧
      s.curves.at? 2 = none ∧ (∀ k, 1 ≤ k → k < 2 → (s.curves.at? k).isSome) := by
  refine ⟨by decide, by decide +kernel, by decide +kernel, by decide, ?_, by decide +kernel, by decide, ?_, by decide +kernel,
    by decide, ?_⟩ <;> intro k h1 h2 <;> interval_cases k <;> rfl

theorem witness_SetsReplaceTheContent :
    let s := planned
    s.points.at? 1 = some (point shotContent .idle none (some passed)) ∧ s.level ≤ 0 ∧
      checkPoint s.states s.curves { rawShot with tag := 9 } = some { shotContent with tag := 9 } ∧
      (∀ e ∈ s.points, e.1 ≠ 1 → e.2.content.tag ≠ 9) ∧
      s.states.at? 2 = some (record 5400 6000000 .input .continuous 2) ∧
      (∀ e ∈ (plan .queued .idle none).points, 2 ∈ e.2.content.states → e.2.status = .idle ∨ e.2.status = .queued) ∧
      checkState (rawState 0 100 0 0 0) = some (content 0 100 .time .continuous) ∧ s.curves.at? 1 = some curve ∧
      (∀ e ∈ (plan .queued .active (some midway)).points, e.2.content.curve? = some 1 → e.2.status ≠ .active) ∧
      checkCurve rawCurve = some curve.content := by decide +kernel

theorem witness_DropsRetireRecords :
    planned.points.at? 2 = some (point searchContent .idle none none) ∧ planned.level ≤ 0 ∧
      Table.at? [(192, record 0 100 .time .continuous 0)] 192 = some (record 0 100 .time .continuous 0) ∧
      (record 0 100 .time .continuous 0).refCount = 0 ∧
      Table.at? [(16, { curve with refCount := 0 })] 16 = some { curve with refCount := 0 } := by decide +kernel

theorem witness_StateLoadCreatesInOrder :
    let good := (2, rawState 0 100 0 0 0)
    let full := { planned with states := (List.range' 1 191).map fun h => (h, record 0 100 .time .continuous 0) }
    planned.states.wf 192 = true ∧ (1 ≤ [good, good, good].length ∧ planned.states.length + 3 ≤ 192) ∧
      (∀ e ∈ [good, good, good], e.1 ≤ 2 ∧ (checkState e.2).isSome) ∧
      (checkState (rawState 0 99 0 0 0) = none ∧ 2 < 3 ∧ 1 ≤ [good].length ∧ [good].length + 1 + [good].length ≤ 3 ∧
        [good, good].length + 1 + 0 ≤ 3) ∧
      (full.states.wf 192 = true ∧ full.states.length + [good].length = 192) := by
  decide +kernel

theorem witness_ResultGetAndResultDrop :
    planned.points.at? 1 = some (point shotContent .idle none (some passed)) ∧ planned.level ≤ 0 ∧
      ∀ e ∈ planned.points, e.1 ≠ 1 → e.2.result = none := by decide +kernel

theorem witness_RecordRequestsAreCheckedInOrder :
    let s := { plan .active .suspended (some midway) with level := 1 }
    let full := List.replicate 32 (QueueEntry.mk 9 false)
    (65 = 0 ∨ 64 < 65) ∧ (193 = 0 ∨ 192 < 193) ∧ (17 = 0 ∨ 16 < 17) ∧ s.points.at? 64 = none ∧ s.states.at? 192 = none ∧
      s.curves.at? 16 = none ∧ s.points.at? 1 = some (point shotContent .active none (some passed)) ∧
      s.points.at? 2 = some (point searchContent .suspended (some midway) none) ∧ 0 < s.level ∧ 32 ≤ full.length ∧
      (∃ e ∈ s.points, 1 ∈ e.2.content.states ∧ e.2.status = .active) ∧
      (∃ e ∈ s.points, e.2.content.curve? = some 1 ∧ e.2.status = .active) ∧
      (s.states.at? 1).map (fun r => r.refCount) = some 2 ∧ (s.curves.at? 1).map (fun r => r.refCount) = some 1 := by
  decide +kernel

/-- A table with every handle present. -/
def full {α : Type} (size : Nat) (a : α) : Table α := (List.range' 1 size).map fun h => (h, a)

theorem full_isSome {α : Type} (a : α) : ∀ (n from_ h : Nat), from_ ≤ h → h < from_ + n →
    (Table.at? ((List.range' from_ n).map fun h => (h, a)) h).isSome = true
  | 0, _, _, h1, h2 => by omega
  | n + 1, from_, h, h1, h2 => by
    simp only [List.range'_succ, List.map_cons, Table.at?]
    split
    · rfl
    · exact full_isSome a n (from_ + 1) h (by omega) (by omega)

theorem witness_ContentIsCheckedBeforeTagAndRoom :
    let s := { planned with
      points := full 64 (point searchContent .idle none none), states := full 192 (record 0 100 .time .continuous 0)
      curves := full 16 curve }
    checkPoint s.states s.curves { rawShot with states := [] } = none ∧ checkState (rawState 0 99 0 0 0) = none ∧
      checkCurve { rawCurve with pickup := 9 } = none ∧ checkPoint s.states s.curves rawSearch = some searchContent ∧
      (∃ e ∈ s.points, e.1 ≠ 0 ∧ e.2.content.tag = searchContent.tag) ∧
      checkPoint s.states s.curves rawShot = some shotContent ∧
      (¬ ∃ e ∈ s.points, e.1 ≠ 0 ∧ e.2.content.tag = shotContent.tag) ∧
      (∀ k, 1 ≤ k → k ≤ 64 → (s.points.at? k).isSome) ∧ (∀ k, 1 ≤ k → k ≤ 192 → (s.states.at? k).isSome) ∧
      (∀ k, 1 ≤ k → k ≤ 16 → (s.curves.at? k).isSome) ∧
      (∃ e ∈ planned.points, e.1 ≠ 1 ∧ e.2.content.tag = 7 ∧
        checkPoint planned.states planned.curves { rawShot with tag := 7 } = some { shotContent with tag := 7 }) := by
  refine ⟨by decide +kernel, by decide +kernel, by decide +kernel, by decide +kernel, by decide +kernel, by decide +kernel,
    by decide +kernel, fun k _ _ => full_isSome _ 64 1 k (by omega) (by omega),
    fun k _ _ => full_isSome _ 192 1 k (by omega) (by omega), fun k _ _ => full_isSome _ 16 1 k (by omega) (by omega),
    by decide +kernel⟩

theorem witness_ContentChecksAreExact :
    checkState (rawState 32000 100 1 1 35999) = some (content 32000 100 .input (.angle 35999)) ∧
      checkCurve { rawCurve with breakpoints := [(1000, 600000000), (65535, 1000)] } =
        some { curve.content with breakpoints := [(1000, 600000000), (65535, 1000)] } ∧
      checkPoint planned.states planned.curves rawShot = some shotContent ∧
      checkPoint planned.states planned.curves { rawShot with
        startMode := 1, day := 65535, second := 86399, offset := 999999, combine := 1, expectation := 1
        expectedTime := 1000 } = some { shotContent with
          kind := .shot (.fixed 1000) 50 40000, start := .atTime 65535 86399 999999, combine := .all } ∧
      checkPoint planned.states planned.curves { rawSearch with policy := 1 } =
        some { searchContent with kind := .search { params with policy := .abort } } := by decide +kernel

theorem witness_LevelStepsOneWay :
    let s := { planned with level := 1 }
    (∃ u, exec (.deviceReset ⟨0, true⟩) s = .next u) ∧ next (.runReset 20) s (fun u => u.level = 1) = true ∧ s.level ≤ 2 ∧ 2 < 3 ∧
      0 < s.level ∧ s.level ≤ 2 ∧ s.points.at? 1 = some (point shotContent .idle none (some passed)) ∧
      (point shotContent .idle none (some passed)).editLevel < 2 := by
  refine ⟨⟨_, rfl⟩, by decide +kernel, by decide, by decide, by decide, by decide, by decide +kernel, by decide⟩

theorem witness_QueueRequestsMoveEntries :
    let s := { plan .idle .suspended (some midway) with
      run := { RunController.reset with hold := true, queue := [⟨9, true⟩, ⟨2, false⟩] } }
    (s.points.at? 1 = some (point shotContent .idle none (some passed)) ∧ s.run.queue.length < 32 ∧ s.run.hold = true) ∧
      (s.run.queue = [⟨9, true⟩] ++ [⟨2, false⟩] ∧ (∀ e ∈ [QueueEntry.mk 9 true], e.marked = true) ∧
        ∀ e ∈ [QueueEntry.mk 2 false], e.marked = false) ∧
      (planned.run.hold = false ∧ planned.run.state = .idle ∧ planned.run.queue.length < 32) ∧
      s.points.at? 2 = some (point searchContent .suspended (some midway) none) ∧
      held.points.at? 1 = some (point shotContent .queued none (some passed)) := by decide +kernel

theorem witness_ReleaseTakesTheHeadThroughPrecheck :
    held.run.state = .idle ∧ held.run.hold = true ∧ held.run.queue = ⟨1, true⟩ :: [⟨2, false⟩] ∧
      held.points.at? 1 = some (point shotContent .queued none (some passed)) ∧ held.ChannelsFit shotContent ∧
      held.ScheduleGives shotContent.start none ∧ held.RelayHasReset shotContent ∧
      (¬ { held with channels := held.channels.update .v1 fun k => { k with fit := false } }.ChannelsFit shotContent) ∧
      (¬ { held with inputs := held.inputs.update .bi1 fun i => { i with qualification := .active } }.RelayHasReset
        shotContent) ∧
      held.ScheduleGives (.atTime 1 1 0) (some .timeLost) ∧
      locked.ScheduleGives (.atTime 812 43200 0) (some .lateStart) ∧ locked.ScheduleGives (.atTime 812 43201 0) none ∧
      locked.ScheduleGives (.atTime 812 46799 0) none ∧ locked.ScheduleGives (.atTime 812 46800 0) (some .tooFar) := by
  refine ⟨by decide, by decide, by decide, by decide +kernel, ?_, rfl, ?_, ?_, ?_, rfl, ?_, ?_, ?_, ?_⟩
  · intro c _
    cases c <;> rfl
  · intro n _
    cases n <;> rfl
  · intro h
    have := h .v1 (.inl ⟨1, by decide, _, rfl, by decide⟩)
    exact absurd this (by decide)
  · intro h
    exact absurd (h .bi1 (by decide)) (by decide)
  · exact ⟨1, by decide, by decide, by decide, by decide⟩
  · exact ⟨2, by decide, by decide, by decide, by decide⟩
  · exact ⟨3600, by decide, by decide, by decide, by decide⟩
  · exact ⟨3601, by decide, by decide, by decide, by decide⟩

theorem witness_RunSetupHoldAndRelease :
    (60000 ≤ 60000 ∧ 1 ≤ 1) ∧ (60000 < 60001) ∧ planned.run.hold = false ∧
      (State.reset.run.state = .idle ∧ State.reset.run.queue = []) ∧
      (RunState.rest 0 0 false none ≠ .idle ∧
        ∀ since n fault, RunState.rest 0 0 false none ≠ .rest since n true fault) := by
  refine ⟨by decide, by decide, by decide, by decide, by decide, ?_⟩
  intro since n fault
  simp

/-- The SHOT test point ACTIVE in a run state. -/
def standing (r : RunState) : State :=
  let s := shotOf 1 2 (content 5400 6000000 .input .continuous)
  { s with run := { s.run with state := r } }

/-- Each of the five commands aborts in a run state that calls for it. -/
theorem standing_aborts :
    (standing (.resetWait 0 1000)).AbortsAt 1000000 (.shotAbort 1000000) .command ∧
      (standing (.resetWait 0 1000)).AbortsAt 1000000 (.runReset 1000000) .runReset ∧
      (standing (.playing { stage := .ready 1000020, fault := some 1000000 })).AbortsAt 1000000 (.amplifierAbort 1000000)
        .amplifier ∧
      (standing (.rest 0 1000 false (some 1000000))).AbortsAt 1000000 (.amplifierAbort 1000000) .amplifier ∧
      (standing (.startWait { policy := .lockedOnly, start := none, lost := some 1000000 })).AbortsAt 1000000
        (.timeLostAbort 1000000) .timeLost ∧
      (standing (.resetWait 0 1000)).AbortsAt 1000000 (.resetWaitLimitExpiry 1000000) .notReset := by
  refine ⟨.inl ⟨rfl, rfl⟩, .inr (.inl ⟨rfl, rfl⟩), .inr (.inr (.inl ⟨rfl, rfl, 1000000, by decide, .inl ⟨_, rfl, rfl⟩⟩)),
    .inr (.inr (.inl ⟨rfl, rfl, 1000000, by decide, .inr ⟨_, _, _, rfl⟩⟩)),
    .inr (.inr (.inr (.inl ⟨rfl, rfl, _, 1000000, rfl, rfl, by decide⟩))),
    .inr (.inr (.inr (.inr ⟨rfl, rfl, 0, 1000, rfl, by decide⟩)))⟩

theorem witness_AbortsPostAndRest :
    let s := standing (.resetWait 0 1000)
    s.instantAhead 1000000 ∧ s.activePoint = some (1, point shotContent .active none (some passed)) ∧
      planned.activePoint = none ∧ s.AbortsAt 1000000 (.shotAbort 1000000) .command ∧
      Instr.shotAbort 1000000 ≠ .runReset 1000000 ∧ Instr.amplifierAbort 1000000 ≠ .runReset 1000000 :=
  ⟨And.intro (by decide +kernel) (by decide +kernel), by decide +kernel, by decide, standing_aborts.1, nofun, nofun⟩

theorem witness_AbortedResultsHoldWhatTheShotReached :
    let s := shotOf 2 2 (content 5400 6000000 .input .continuous)
    (s.instantAhead 1000000 ∧ s.activePoint = some (2, point searchContent .active (some midway) none) ∧
      searchContent.kind = .search params ∧ s.AbortsAt 1000000 (.shotAbort 1000000) .command) ∧
      (let k := tripped (shotOf 1 2 (content 5400 6000000 .input .continuous));
        k.instantAhead 1000200 ∧ k.activePoint = some (1, point shotContent .active none (some passed)) ∧
        k.AbortsAt 1000200 (.runReset 1000200) .runReset ∧ k.shot.tripInstant = some 1000010 ∧
        k.shot.tripTime = some 10) ∧
      (standing (.resetWait 0 1000)).AbortsAt 1000000 (.resetWaitLimitExpiry 1000000) .notReset :=
  ⟨⟨And.intro (by decide +kernel) (by decide +kernel), by decide +kernel, by decide +kernel, .inl ⟨rfl, rfl⟩⟩,
    ⟨And.intro (by decide +kernel) (by decide +kernel), by decide +kernel, .inr (.inl ⟨rfl, rfl⟩), by decide +kernel,
      by decide +kernel⟩, standing_aborts.2.2.2.2.2⟩

theorem witness_RunResetEndsEverything :
    let s := shotOf 1 2 (content 5400 6000000 .input .continuous)
    s.instantAhead 1000000 ∧ s.run.active = some 1 ∧ s.points.at? 64 = none ∧
      held.points.at? 2 = some (point searchContent .queued none none) :=
  ⟨And.intro (by decide +kernel) (by decide +kernel), by decide +kernel, by decide +kernel, by decide +kernel⟩

theorem witness_ChannelRequestsConfigureUnmuteAndService :
    (0 = 0 ∨ 8 < 0) ∧ (9 = 0 ∨ 8 < 9) ∧ (ChannelConfig.mk 15000 500 510 16 255).valid .v1 ∧
      ¬ (ChannelConfig.mk 15000 500 509 16 255).valid .v1 ∧
      (∃ play, (shotOf 1 2 (content 0 100 .time .continuous)).run.state = .playing play) ∧
      (∀ play, planned.run.state ≠ .playing play) ∧ { Channel.reset 8000 with faultLine := true }.faultLine = true ∧
      (Channel.reset 8000).faultLine = false ∧ 1 < { planned with level := 2 }.level ∧
      { planned with level := 1 }.level ≤ 1 := by
  refine ⟨by decide, by decide, by unfold ChannelConfig.valid; decide, by unfold ChannelConfig.valid; decide, ⟨_, rfl⟩, ?_,
    rfl, rfl, by decide, by decide⟩
  intro play
  exact nofun

theorem witness_InputSetConfiguresOrHolds :
    (11 = 0 ∨ 10 < 11) ∧ (∃ play, (shotOf 1 2 (content 0 100 .time .continuous)).run.state = .playing play) ∧
      (∀ play, planned.run.state ≠ .playing play) ∧
      (let bad := fun r : RawInputConfig => decide (r.samples = 0 ∨ 100 < r.samples ∨ 1 < r.polarity ∨ 1 < r.mode ∨
          r.mode = 1 ∧ (r.onThreshold < 5 ∨ 300 < r.onThreshold ∨ r.onThreshold ≤ r.offThreshold));
        (bad ⟨1, 5, 4, 100, 1⟩, bad ⟨0, 0, 0, 1, 0⟩, bad ⟨1, 300, 300, 1, 0⟩, bad ⟨0, 0, 0, 101, 0⟩) =
          (false, false, true, true)) := by
  refine ⟨by decide, ⟨_, rfl⟩, ?_, by decide⟩
  intro play
  exact nofun

theorem witness_OutputIdleSetReplacesTheIdleLevels :
    15 < 16 ∧ 15 ≤ 15 ∧ planned.gen.snapshot = none ∧
      (let s := shotOf 1 2 (content 0 100 .time .continuous);
        s.gen.snapshot ≠ none ∧ next (.outputIdleSet 15) s (fun u => u.activePoint = s.activePoint) = true ∧
        s.activePoint = some (1, point shotContent .active none (some passed)) ∧
        next (.shotAbort 1000000) s (fun _ => true) = true) ∧
      next (.runReset 20) planned (fun _ => true) = true := by decide +kernel

theorem witness_TimeSetAndTimeGet :
    (20 ≤ 1000 ∧ 1000 ≤ 1000 ∧ (4 = 1 ∨ 4 = 4) ∧ 1 ≤ 300 ∧ 300 ≤ 300) ∧ ¬ (20 ≤ 19) ∧
      (locked.time.lock = .locked ∧ locked.time.missed < 1) ∧
      (let b := { locked.time with missed := 1 }; b.lock = .locked ∧ 1 ≤ b.missed) ∧
      (let b := { locked.time with lock := .holdover, holdoverEntry := some 0 };
        b.lock = .holdover ∧ b.holdoverEntry = some 0 ∧
        Tick.reached (0 + BitVec.ofNat 48 (1000000 * 9)) locked.tick = true ∧
        Tick.reached (0 + BitVec.ofNat 48 (1000000 * 10)) locked.tick = false) ∧
      locked.time.acquisition < 256 ∧ locked.time.missed < 256 := by decide +kernel

/-- One input in a qualification state, its last sample before tick 1,000,000. -/
def withInput (s : State) (q : Qualification) (samples : Nat) : State :=
  { s with inputs := s.inputs.update .bi1 fun i => { i with
      qualification := q, config := { i.config with samples := samples } } }

theorem witness_SensedLevelChangeStartsOrCutsARun :
    let s := withInput (shotOf 1 2 (content 0 100 .time .continuous))
    let wet := { Input.reset with config := { mode := .wet 80 30, samples := 2, inverted := true }, wetMemory := true }
    (s .inactive 2).sampleAhead 1000000 ∧ ((s .inactive 2).inputs.get .bi1).sampledAt ≠ some 1000000 ∧
      ((s .inactive 2).inputs.get .bi1).config.mode = .dry ∧
      (wet.config.mode = .wet 80 30 ∧
        [80, 79, 31, 30].map (fun v : BitVec 9 => if 80 ≤ min v.toNat 300 then true else if min v.toNat 300 ≤ 30 then false
          else wet.wetMemory) = [true, true, true, false]) ∧
      ((s .inactive 2).inputs.get .bi1).qualification = .inactive ∧
      ((s (.pendingOn 1 5) 2).inputs.get .bi1).qualification = .pendingOn 1 5 ∧
      (∀ a b, (s (.pendingOn 1 5) 2).run.state ≠ .resetWait a b) ∧
      (let w := withInput (standing (.resetWait 900000 5000)) (.pendingOn 1 5) 2;
        (w.run.state = .resetWait 900000 5000 ∧ w.activePoint = some (1, point shotContent .active none (some passed)) ∧
          Inp.isIn .bi1 shotContent.monitored = true ∧ w.ScheduleGives .immediate none) ∧
        next (.sensedLevelChange 1000000 .bi1 false 0) w (fun u =>
          u.run.state = .playing { stage := .ready 1000020, fault := none }) = true) ∧
      ((s .active 2).inputs.get .bi1).qualification = .active ∧ 2 ≤ ((s .active 2).inputs.get .bi1).config.samples ∧
      ((s (.pendingOff 1 5) 2).inputs.get .bi1).qualification = .pendingOff 1 5 := by
  refine ⟨And.intro (by decide +kernel) (by decide +kernel), by decide, rfl, ⟨rfl, by decide +kernel⟩, rfl, rfl, ?_,
    ⟨⟨rfl, by decide +kernel, by decide, rfl⟩, by decide +kernel⟩, rfl, by decide, rfl⟩
  intro a b
  exact nofun

/-- Both inputs of an ALL criterion; the first has operated at a tick. -/
def allOf (first : Option Tick) : State :=
  let s := shotOf 1 2 (content 0 100 .time .continuous)
  { s with
    points := s.points.change 1 fun p => { p with content := { p.content with combine := .all, monitored := 3 } }
    inputs := (s.inputs.update .bi1 fun i => { i with entry := { i.entry with operate := first } }).update .bi2
      fun i => { i with qualification := .pendingOn 19 999810 } }

theorem witness_OperateIsBackDatedAndQualifies :
    let s := withInput (shotOf 1 2 (content 0 100 .time .continuous)) (.pendingOn 19 999810) 20
    let one := withInput (shotOf 1 2 (content 0 100 .time .continuous)) .inactive 1
    (s.sampleAhead 1000000 ∧ (s.inputs.get .bi1).sampledAt ≠ some 1000000 ∧
        (s.inputs.get .bi1).qualification = .pendingOn 19 999810 ∧ (s.inputs.get .bi1).config.samples ≤ 19 + 1) ∧
      ((one.inputs.get .bi1).qualification = .inactive ∧ (one.inputs.get .bi1).config.samples ≤ 1) ∧
      (s.run.state.started = true ∧ (s.inputs.get .bi1).entry.operate = none ∧ s.shot.criterion = none ∧
        s.activePoint = some (1, point shotContent .active none (some passed)) ∧
        Inp.isIn .bi1 shotContent.monitored = true ∧ Inp.isIn .bi2 shotContent.monitored = false) ∧
      (Tick.before 499990 s.shot.started = true ∧ Tick.before 500000 s.shot.started = false) ∧
      (let k := (tripped s).shot.criterion; k = some { qualifying := 1000200, timestamp := 1000010 }) ∧
      ((allOf none).activePoint.map (fun p => (p.2.content.combine, p.2.content.monitored)) = some (.all, 3) ∧
        ((allOf none).inputs.get .bi1).entry.operate = none ∧
        ((allOf (some 999000)).inputs.get .bi1).entry.operate.isSome = true ∧
        ((allOf none).inputs.get .bi2).qualification = .pendingOn 19 999810 ∧
        ((allOf none).inputs.get .bi2).config.samples ≤ 19 + 1) ∧
      planned.activePoint = none := by
  refine ⟨⟨And.intro (by decide +kernel) (by decide +kernel), ?_⟩, ?_⟩ <;> decide +kernel

theorem witness_ReleaseIsBackDatedAndEndsTheWait :
    let s := withInput (shotOf 1 2 (content 0 100 .time .continuous)) (.pendingOff 19 999810) 20
    let one := withInput (shotOf 1 2 (content 0 100 .time .continuous)) .active 1
    let waiting := { s with run := { s.run with state := .resetWait 900000 5000 } }
    (s.sampleAhead 1000000 ∧ (s.inputs.get .bi1).sampledAt ≠ some 1000000 ∧
        (s.inputs.get .bi1).qualification = .pendingOff 19 999810 ∧ (s.inputs.get .bi1).config.samples ≤ 19 + 1) ∧
      ((one.inputs.get .bi1).qualification = .active ∧ (one.inputs.get .bi1).config.samples ≤ 1) ∧
      (∀ a b, s.run.state ≠ .resetWait a b) ∧ waiting.run.state = .resetWait 900000 5000 ∧
      waiting.activePoint = some (1, point shotContent .active none (some passed)) ∧
      Inp.isIn .bi1 shotContent.monitored = true ∧ Inp.isIn .bi2 shotContent.monitored = false ∧
      waiting.ScheduleGives .immediate none ∧ waiting.ScheduleGives (.atTime 1 1 0) (some .timeLost) ∧
      next (.release 1000000 .bi1) waiting (fun u => u.run.state = .playing { stage := .ready 1000020, fault := none }) =
        true := by
  refine ⟨⟨And.intro (by decide +kernel) (by decide +kernel), by decide +kernel⟩, by decide +kernel, ?_, rfl, by decide +kernel,
    by decide, by decide, rfl, rfl, by decide +kernel⟩
  intro a b
  exact nofun

theorem witness_InputSampleSensesEveryInput :
    State.reset.sampleAhead 10 ∧ (∀ n, (State.reset.inputs.get n).sampledAt ≠ some 10) ∧
      (∀ n, (State.reset.inputs.get n).config.valid) ∧ (∀ a b, State.reset.run.state ≠ .resetWait a b) := by
  refine ⟨And.intro (by decide) (by decide +kernel), ?_, ?_, ?_⟩
  · intro n
    cases n <;> decide
  · intro n
    cases n <;> exact ⟨by decide, by decide, trivial⟩
  · intro a b
    exact nofun

theorem witness_RunsQualifyAtTheirLength :
    (1 ≤ 1 ∧ ([10] : List Tick).head? = some 10 ∧ ([10] : List Tick).length = 1) ∧
      (([10, 20] : List Tick).head? = some 10 ∧ ([10, 20] : List Tick).length < 3) ∧
      (let k := Channel.reset 8000;
        k.qualifying = 0 ∧ k.lost = false ∧ (∀ r ∈ [899], r < k.config.offThreshold) ∧ [899].length < k.config.qualifying ∧
          [899, 0].length = k.config.qualifying ∧ { k with lost := true }.lost = true ∧
          k.config.offThreshold ≤ k.config.onThreshold ∧ ∀ r ∈ [950, 1000], k.config.onThreshold ≤ r) := by decide

theorem witness_FaultLinesMuteAndCount :
    State.reset.sampleAhead 10 ∧ State.reset.sampleAhead 0 ∧ (State.reset.channels.get .ix).faultLine = false ∧
      (State.reset.channels.get .ix).lineReadAt ≠ 10 ∧ (State.reset.channels.get .ix).lineReadAt = 0 ∧
      (State.reset.channels.update .ix fun k => { k with faultLine := true }).ix.faultLine = true ∧
      (∃ play, (shotOf 1 2 (content 0 100 .time .continuous)).run.state = .playing play ∧ play.fault = none) ∧
      (∀ play, State.reset.run.state ≠ .playing play) := by
  refine ⟨And.intro (by decide) (by decide +kernel), And.intro (by decide) (by decide +kernel), rfl, by decide, rfl, rfl,
    ⟨_, rfl, rfl⟩, ?_⟩
  intro play
  exact nofun

/-- Supervised: I1 in a window with one sample missing, at full range. -/
def supervised (taken : Nat) : State :=
  let s := shotOf 1 2 (content 8000 100 .time .continuous)
  { s with
    gen := { s.gen with synths := s.gen.synths.update .i1 fun y => { y with applied := 8000, peak := 32767 } }
    channels := s.channels.update .i1 fun k => { k with
      window := some { settling := false, taken := taken, sum := 0 }, qualifying := 1 } }

theorem witness_GeneratorInstantDeliversOneSample :
    let s := supervised 498
    s.instantAhead 1000020 ∧ s.gen.instant = some 1000000 ∧ (1000000 : Tick).toNat % 20 = 0 ∧
      (1000020 : Tick) = 1000000 + 20 ∧ (1000000 : Tick).toNat + 20 < 2 ^ 48 ∧
      (s.gen.synths.get .i1).peak ≤ 32767 ∧ (s.channels.get .v1).window = none ∧
      (s.channels.get .i1).window = some { settling := false, taken := 498, sum := 0 } ∧
      (s.channels.get .i1).fedAt ≠ some 1000020 ∧ 498 + 1 < (50000000 + 50000) / (2 * 50000) ∧
      (∀ d, (planned.channels.get d).window = none) := by
  refine ⟨And.intro (by decide +kernel) (by decide +kernel), by decide, by decide, by decide, by decide, by decide, by decide,
    by decide, by decide, by decide, ?_⟩
  intro d
  cases d <;> rfl

theorem witness_SamplesAreAntisymmetricAndTargetsAreMet : 0 < (phaseStep 5000).toNat := by decide +kernel

theorem witness_WindowEstimateIsClassed :
    let s := supervised 499
    s.instantAhead 1000000 ∧ (s.channels.get .i1).window = some { settling := false, taken := 499, sum := 0 } ∧
      499 + 1 = (50000000 + (s.gen.synths.get .i1).frequency) / (2 * (s.gen.synths.get .i1).frequency) ∧
      (s.channels.get .i1).fedAt ≠ some 1000000 ∧
      next (.windowEstimate 1000000 .i1 0) s (fun u => u.channels.i1.lost ∧ u.channels.i1.losses = 1) = true :=
  ⟨And.intro (by decide +kernel) (by decide +kernel), by decide, by decide, by decide, by decide +kernel⟩

/-- The SHOT test point about to start, its list beginning with a state of an inception. -/
def starting (faultPosition : Nat) (i : Inception) (state : RunState) : State :=
  let s := shotOf 1 2 (content 0 100 .time .continuous)
  { s with
    points := s.points.change 1 fun p => { p with content := { p.content with faultPosition := faultPosition } }
    states := s.states.change 1 fun r => { r with content := { r.content with inception := i } }
    gen := { s.gen with snapshot := none }, run := { s.run with state := state } }

theorem witness_ShotStartEntersTheFirstState :
    let ready := RunState.playing { stage := .ready 1000000, fault := none }
    let wait : StartWait := { policy := .lockedOnly, start := some (1000000, 19), lost := none }
    let s := starting 1 (.angle 9000) ready
    s.instantAhead 1000000 ∧ (s.activePoint.map fun p => (p.1, p.2.content.states)) = some (1, [1, 2, 3]) ∧
      (s.states.at? 1).map (fun r => r.content.inception) = some (.angle 9000) ∧ s.run.state = ready ∧
      Tick.reached 1000000 1000000 = true ∧ (s.gen.arrive 1000000).meets (phaseOf 9000) = false ∧
      ({ s.gen with synths := s.gen.synths.update .v1 fun y => { y with accumulator := 1073741824 } }.arrive
        1000000).meets 1073741824 = true ∧
      phaseOf 0 = 0 ∧ phaseOf 35999 ≠ 0 ∧ (starting 1 .continuous (.startWait wait)).run.state = .startWait wait ∧
      (starting 2 .continuous ready).run.state = ready :=
  ⟨And.intro (by decide +kernel) (by decide +kernel), by decide +kernel, by decide +kernel, rfl, by decide +kernel,
    by decide +kernel, by decide +kernel, by decide +kernel, by decide +kernel, rfl, rfl⟩

theorem witness_EndedStatesLeadToTheNext :
    let s := shotOf 1 1 (content 500 100 .time .continuous)
    let k := tripped (shotOf 1 2 (content 5400 6000000 .input .continuous))
    (s.instantAhead 1000100 ∧ s.activePoint = some (1, point shotContent .active none (some passed)) ∧
        s.run.state = .playing { stage := .inPlay 1 1000000, fault := none } ∧
        s.gen.snapshot = some { handle := 1, content := content 500 100 .time .continuous } ∧
        shotContent.states[1]? = some 2 ∧ s.states.at? 2 = some (record 5400 6000000 .input .continuous 2) ∧
        Tick.reached (1000000 + BitVec.ofNat 48 100) 1000100 = true) ∧
      (k.instantAhead 1000220 ∧ k.shot.criterion = some { qualifying := 1000200, timestamp := 1000010 } ∧
        Tick.reached 1000000 1000200 = true ∧ Tick.before 1000200 1000220 = true ∧ shotContent.states[2]? = some 3) ∧
      (s.gen.arrive 1000100).meets (phaseOf 9000) = false :=
  ⟨⟨And.intro (by decide +kernel) (by decide +kernel), by decide +kernel, by decide +kernel, by decide +kernel, by decide,
      by decide +kernel, by decide +kernel⟩,
    ⟨And.intro (by decide +kernel) (by decide +kernel), by decide +kernel, by decide +kernel, by decide +kernel, by decide⟩,
    by decide +kernel⟩

/-- The SHOT test point deferred in its first state, the fault state's target at an angle. -/
def deferring (theta : Nat) : State :=
  let s := shotOf 1 1 (content 500 100 .time .continuous)
  { s with
    states := s.states.change 2 fun r => { r with content := { r.content with inception := .angle theta } }
    run := { s.run with state := .playing { stage := .deferred 1, fault := none } } }

theorem witness_PointOnWaveInceptionEntersTheFaultState :
    let s := deferring 9000
    let v := s.gen.arrive 1000020
    let near := { s with gen := { s.gen with synths := s.gen.synths.update .v1 fun y => { y with
      accumulator := 1073741823 } } };
    let w := near.gen.arrive 1000020
    s.instantAhead 1000020 ∧ (s.activePoint.map fun p => (p.1, p.2.content.faultPosition)) = some (1, 1 + 1) ∧
      s.run.state = .playing { stage := .deferred 1, fault := none } ∧ shotContent.states[1]? = some 2 ∧
      (s.states.at? 2).map (fun r => r.content.inception) = some (.angle 9000) ∧
      (v.synths.v1.accumulator - v.v1Before).toNat < (phaseOf 9000 - v.v1Before).toNat ∧
      (0 < (phaseOf 9000 - w.v1Before).toNat ∧
        (phaseOf 9000 - w.v1Before).toNat ≤ (w.synths.v1.accumulator - w.v1Before).toNat) ∧
      next (.pointOnWaveInception 1000020) near (fun u => u.shot.inception = some 1000020) = true :=
  ⟨And.intro (by decide +kernel) (by decide +kernel), by decide +kernel, by decide +kernel, by decide, by decide +kernel,
    by decide +kernel, by decide +kernel, by decide +kernel⟩

theorem witness_SearchTrialsAndProcedure :
    let p := point searchContent .active (some midway) none
    (p.content.kind = .search params ∧ p.context = some midway ∧ 1 ≠ p.content.faultPosition ∧
        2 = p.content.faultPosition ∧ midway.phase = .bisect ∧ midway.lower + 2 ≤ midway.upper) ∧
      (params.firstContext.phase = .bracketHigh ∧ { params.firstContext with phase := .bracketLow }.phase = .bracketLow) ∧
      (20 ≤ params.resolution ∧ params.resolution < 21 ∧ 12 = params.maximumShots ∧ 11 ≠ params.maximumShots) := by
  decide +kernel

/-- The SHOT test point in its last state since tick 1,000,000, with working values. -/
def ending (w : Working) : State :=
  let s := shotOf 1 3 (content 0 100 .time .continuous)
  { s with shot := { s.shot with inception := some 900000, working := some w } }

theorem witness_ShotEndPostsTheVerdict :
    let band : Expected := { time := 100000, low := 50000, high := 100100 }
    let s := ending (.fixed band)
    (s.instantAhead 1000100 ∧ s.activePoint = some (1, point shotContent .active none (some passed)) ∧
        shotContent.kind = .shot (.curve 1) 50 40000 ∧
        s.run.state = .playing { stage := .inPlay 3 1000000, fault := none } ∧
        s.gen.snapshot = some { handle := 3, content := content 0 100 .time .continuous } ∧
        shotContent.states.length ≤ 3 ∧ s.shot.inception = some 900000 ∧ s.shot.working = some (.fixed band) ∧
        Tick.reached (1000000 + BitVec.ofNat 48 100) 1000100 = true) ∧
      (s.shot.tripTime = none ∧ band.high ≤ Tick.elapsed 900000 1000100) ∧
      (tripped s).shot.tripTime = some 100010 ∧
      next (.stateDurationEnd 1000100) s (fun u => ((u.points.at? 1).bind fun p => p.result).map
        (fun r => r.verdict) = some .failNoTrip) = true :=
  ⟨⟨And.intro (by decide +kernel) (by decide +kernel), by decide +kernel, by decide, by decide +kernel, by decide +kernel,
      by decide, by decide +kernel, by decide +kernel, by decide +kernel⟩, by decide +kernel, by decide +kernel,
    by decide +kernel⟩

theorem witness_SearchShotEndsFeedTheProcedure :
    let s := shotOf 2 3 (content 0 100 .time .continuous)
    (s.instantAhead 1000100 ∧ s.activePoint = some (2, point searchContent .active (some midway) none) ∧
        searchContent.kind = .search params ∧ s.run.state = .playing { stage := .inPlay 3 1000000, fault := none } ∧
        s.gen.snapshot = some { handle := 3, content := content 0 100 .time .continuous } ∧
        searchContent.states.length ≤ 3 ∧ s.shot.inception = some 1000000 ∧
        Tick.reached (1000000 + BitVec.ofNat 48 100) 1000100 = true) ∧
      next (.stateDurationEnd 1000100) s (fun u => (u.points.at? 2).bind (fun p => p.context) =
        some { phase := .bisect, lower := 1050, upper := 1100, shotsUsed := 6 }) = true :=
  ⟨⟨And.intro (by decide +kernel) (by decide +kernel), by decide +kernel, by decide, by decide +kernel, by decide +kernel,
    by decide, by decide +kernel, by decide +kernel⟩, by decide +kernel⟩

/-- In REST since tick 0 with an interval of 1,000 ms, the SEARCH test point ACTIVE, a queue and a hold flag. -/
def resting (queue : List QueueEntry) (hold : Bool) : State :=
  let s := plan (if queue = [] then .idle else .queued) .active (some midway)
  { s with run := { s.run with queue := queue, hold := hold, active := some 2, state := .rest 0 1000 false none } }

theorem witness_RestEndIdlesYieldsOrGoesOn :
    let s := resting [⟨1, true⟩] false
    (s.instantAhead 1000000 ∧ s.run.state = .rest 0 1000 false none ∧
        Tick.reached (0 + BitVec.ofNat 48 (1000 * 1000)) 1000000 = true) ∧
      ({ held with run := { held.run with state := .rest 0 1000 false none } }.run.active = none ∧ held.run.queue ≠ [] ∧
        held.run.hold = true) ∧
      (s.activePoint = some (2, point searchContent .active (some midway) none) ∧ searchContent.kind = .search params) ∧
      (let held := { resting [⟨1, true⟩] true with run := { (resting [⟨1, true⟩] true).run with
          state := .rest 0 1000 true (some 0) } };
        held.run.state = .rest 0 1000 true (some 0) ∧ held.run.hold = true ∧
        held.activePoint = some (2, point searchContent .active (some midway) none) ∧
        next .runRelease held (fun u => u.run.active = some 1) = true) ∧
      ((resting [] true).run.hold = true ∧ ∀ e ∈ (resting [] false).run.queue, e.marked = false) ∧
      ((resting [] false).ChannelsFit searchContent ∧ (resting [] false).RelayHasReset searchContent) ∧
      (s.run.queue = ⟨1, true⟩ :: [] ++ [] ∧ params.policy = .suspend ∧ s.run.queue.length < 32) ∧
      (let points := s.points.change 2 fun p => { p with
          content := { p.content with kind := .search { params with policy := .abort } } };
        (State.activePoint { s with points := points }).map (fun p => (p.1, p.2.content.kind, p.2.context)) =
          some (2, Kind.search { params with policy := .abort }, some midway)) := by
  refine ⟨⟨And.intro (by decide +kernel) (by decide +kernel), by decide +kernel, by decide +kernel⟩, by decide +kernel,
    by decide +kernel, by decide +kernel, by decide +kernel, ⟨?_, ?_⟩, by decide +kernel, by decide +kernel⟩
  · intro c _
    cases c <;> rfl
  · intro n _
    cases n <;> rfl

/-- The Timebase's invariant at the LOCKED Timebase. -/
theorem locked_inv : TimeInv locked := by
  refine ⟨by decide, ⟨rfl, by decide, by decide⟩, by decide, by decide, ?_, nofun, by decide⟩
  intro l h
  cases h
  exact ⟨by decide, by decide⟩

theorem witness_PulsesMoveTheLock :
    TimeInv locked ∧ locked.riseAhead 9400000 ∧ locked.time.lock = .locked ∧
      (let high := { locked with time := { locked.time with pps := { high := true, readAt := 9400000 } } };
        Tick.reached high.tick 9400000 = true ∧ Tick.reached high.tick 9400001 = true ∧
        high.time.pps.readAt = 9400000 ∧ high.time.pps.high = true ∧ high.riseAhead 9400002) ∧
      locked.time.reference = some 9000250 ∧
      (let b := locked.time;
        (meanOf b.history ≤ Tick.elapsed 9000250 10000088 + b.window ∧
          Tick.elapsed 9000250 10000488 ≤ meanOf b.history + b.window ∧
          ¬ (Tick.elapsed 9000250 10000489 ≤ meanOf b.history + b.window)) ∧
        (1000000 ≤ Tick.elapsed 9000250 10000050 + b.window ∧ Tick.elapsed 9000250 10000450 ≤ 1000000 + b.window)) ∧
      TimeInv State.reset ∧ State.reset.time.lock = .free ∧
      TimeInv { locked with time := { locked.time with lock := .acquiring, acquisition := 3 } } ∧
      TimeInv { locked with time := { locked.time with
        lock := .holdover, holdoverEntry := some 9000250, referenceKind := .predicted } } := by
  refine ⟨locked_inv, ⟨by decide, by decide, nofun⟩, rfl,
    ⟨by decide, by decide, rfl, rfl, by decide, by decide, fun _ => by decide⟩, rfl, by decide +kernel, ?_, rfl, ?_, ?_⟩
  · exact ⟨by decide, ⟨rfl, rfl, rfl, rfl⟩, by decide, by decide, nofun, nofun, by decide⟩
  · exact ⟨by decide, ⟨rfl, by decide, by decide, by decide⟩, by decide, by decide, locked_inv.label, nofun, by decide⟩
  · exact ⟨by decide, ⟨rfl, by decide, rfl⟩, by decide, by decide, locked_inv.label, nofun, by decide⟩

theorem witness_WindowsAndLimitsMoveTheLock :
    let expected := (9000250 : Tick) + BitVec.ofNat 48 (meanOf locked.time.history)
    TimeInv locked ∧ locked.time.reference = some 9000250 ∧
      Tick.reached (expected + BitVec.ofNat 48 (locked.time.window + 1)) 10000489 = true ∧
      Tick.reached (expected + BitVec.ofNat 48 (locked.time.window + 1)) 10000488 = false ∧
      Tick.reached (9000250 + BitVec.ofNat 48 (1000000 + locked.time.window + 1)) 10000451 = true ∧
      locked.time.missed + 1 < locked.time.missedLimit ∧ 3 + 1 = locked.time.missedLimit ∧
      Tick.reached expected 10000288 = true ∧
      Tick.reached (9000250 + BitVec.ofNat 48 (1000000 * 60)) 69000250 = true := by
  refine ⟨locked_inv, rfl, ?_⟩
  decide +kernel

/-- An AT_TIME test point in START_WAIT before its start second, LOCKED at the label 43,299. -/
def awaiting (policy : SchedulePolicy) : State :=
  { locked with
    points := [(1, point { shotContent with start := .atTime 812 43200 250000 } .active none none)]
    run := { RunController.reset with
      active := some 1, state := .startWait { policy := policy, start := none, lost := none } } }

theorem witness_StartEdgeGivesTheStartTick :
    let s := awaiting .lockedOnly
    let k := awaiting .holdoverOk
    let edge := (9000250 : Tick) + BitVec.ofNat 48 (meanOf s.time.history)
    let holding := { k with time := { k.time with lock := .holdover, holdoverEntry := some 9000250 } }
    (TimeInv s ∧ Tick.reached s.tick 10000290 = true ∧ s.riseAhead 10000290 ∧
      s.run.state = .startWait { policy := .lockedOnly, start := none, lost := none } ∧
      s.activePoint = some (1, point { shotContent with start := .atTime 812 43200 250000 } .active none none) ∧
      250000 ≤ 999999 ∧ 2000000 + (10000290 : Tick).toNat < 2 ^ 48 ∧ 2000000 + edge.toNat < 2 ^ 48) ∧
    (s.time.lock = .locked ∧ s.time.reference = some 9000250 ∧
      meanOf s.time.history ≤ Tick.elapsed 9000250 10000290 + s.time.window ∧
      Tick.elapsed 9000250 10000290 ≤ meanOf s.time.history + s.time.window ∧
      ¬ (meanOf s.time.history ≤ Tick.elapsed 9000250 9400000 + s.time.window)) ∧
    (next (.pulse 10000290) s (fun u => u.time.label = some { day := 812, second := 43200, quality := 3 }) = true ∧
      next (.pulse 10000290) { s with time := { s.time with label := none } } (fun u => u.time.label = none) = true) ∧
    (let m := { s with time := { s.time with missed := 3 } };
      TimeInv m ∧ m.time.missed + 1 = m.time.missedLimit ∧ 1 ≤ m.time.missed ∧
      Tick.reached (edge + BitVec.ofNat 48 (m.time.window + 1)) 10000489 = true) ∧
    (TimeInv holding ∧ Tick.reached edge 10000288 = true ∧
      Tick.reached (9000250 + BitVec.ofNat 48 (1000000 * holding.time.holdoverLimit)) 69000250 = true ∧
      Tick.reached (9000250 + BitVec.ofNat 48 (1000000 * 1)) 10000250 = true) :=
  ⟨⟨⟨locked_inv.setup, locked_inv.lock, locked_inv.history, locked_inv.intervals, locked_inv.label, locked_inv.held,
      locked_inv.counts⟩, by decide, ⟨by decide, by decide, nofun⟩, rfl, by decide +kernel, by decide, by decide,
      by decide +kernel⟩, by decide +kernel, by decide +kernel,
    ⟨⟨locked_inv.setup, ⟨rfl, by decide, by decide⟩, locked_inv.history, locked_inv.intervals, locked_inv.label,
      locked_inv.held, locked_inv.counts⟩, by decide, by decide, by decide +kernel⟩,
    ⟨locked_inv.setup, ⟨rfl, by decide, rfl⟩, locked_inv.history, locked_inv.intervals, locked_inv.label,
      locked_inv.held, locked_inv.counts⟩, by decide +kernel, by decide +kernel, by decide +kernel⟩

/-- spec/09, R160 and R161: offset 0 on a pulse at a multiple of 20 starts the shot at the pulse's own tick; on a missed
or predicted edge such a start can no longer be reached, and one with offset 250,000 can. -/
theorem test_start_edges :
    let at_ := fun (offset : Nat) (k : State) => { k with
      points := [(1, point { shotContent with start := .atTime 812 43200 offset } .active none none)] }
    let waits := fun (i : Instr) (s : State) (start : Option (Tick × Nat)) (lost : Option Tick) =>
      next i s (fun u => u.run.state = .startWait { policy := .holdoverOk, start := start, lost := lost })
    let k := awaiting .holdoverOk
    let h := { k with time := { k.time with lock := .holdover, holdoverEntry := some 9000250 } }
    (waits (.pulse 10000300) (at_ 0 k) (some (10000300, 0)) none = true ∧
      waits (.missedEdge 10000489) (at_ 0 k) none (some 10000489) = true ∧
      waits (.missedEdge 10000489) (at_ 250000 k) (some (10250300, 2)) none = true) ∧
    (waits (.predictedEdge 10000288) (at_ 0 h) (some (10000300, 12)) none = true ∧
      waits (.predictedEdge 10000300) (at_ 0 h) none (some 10000300) = true ∧
      waits (.pulse 9400000) (at_ 0 h) none (some 9400000) = true ∧
      waits (.timeSet 200 4 1) { at_ 0 h with tick := 10000250 } none (some 10000250) = true) := by decide +kernel

theorem witness_TimeMessagesAreHeldOrCounted :
    Tick.reached locked.tick 9000250 = true ∧ (65535 < 65536 ∧ 86399 ≤ 86399 ∧ 255 < 256) ∧
      (let c : List Byte := List.replicate 12 0; 1 ≤ c.length ∧ c.length ≤ 12 ∧ c.length ≠ 8) ∧
      (let c : List Byte := (Label.mk 0 86400 0).message; c.length = 8 ∧ 86399 < valueOf ((c.drop 2).take 3)) ∧
      (let c : List Byte := List.replicate 25 0; 25 ≤ c.length ∧ ∀ b ∈ c, b ≠ 0x7E) ∧
      locked.time.receiver ≠ .message ∧ { locked.time with receiver := .message }.receiver = .message := by
  decide +kernel

theorem witness_BeyondTheCurveTheLastTimeHolds :
    checkCurve rawCurve = some curve.content ∧ curve.content.breakpoints.getLast? = some (6000, 3837000) ∧
      6000 ≤ min (1000 * quantityValue curve.content.quantity (content 6000 100 .time .continuous) /
        curve.content.pickup) 65535 ∧
      checkCurve { rawCurve with pickup := 10 } = some { curve.content with pickup := 10 } ∧
      min (1000 * quantityValue .phaseMax (content 32000 100 .time .continuous) / 10) 65535 = 65535 := by decide +kernel

theorem witness_OnTheCurveTheTimeIsInterpolated :
    checkCurve rawCurve = some curve.content ∧ curve.content.breakpoints.head? = some (5000, 4280000) ∧
      curve.content.breakpoints.getLast? = some (6000, 3837000) ∧ 5000 ≤ 5000 ∧ 5999 < 6000 := by decide +kernel

theorem witness_InceptionFormsTheExpectation :
    searchContent.kind = .search params ∧ shotContent.kind = .shot (.curve 1) 50 40000 ∧
      planned.curves.at? 1 = some curve ∧ checkCurve rawCurve = some curve.content ∧
      (planned.formWorking shotContent (content 5400 100 .time .continuous)).bind Working.expected? =
        some { time := 4102800, low := 3897660, high := 4307940 } := by decide +kernel

/-! ### The invariants hold with records present and a shot in play -/

/-- A search shot in play. -/
def searching : State := shotOf 2 2 (content 1050 1000000 .input .continuous)

theorem witness_LinkInvariantIsKept : LinkInv { searching with port := searching.port.answered 0 [1] } := by
  refine ⟨by decide, rfl, 0, [1], rfl⟩

theorem held_references : ReferenceInv held where
  tables := ⟨rfl, rfl, rfl, (planned_tables .queued .queued none).tags, (planned_tables .queued .queued none).tagged⟩
  statesPresent := fun k p h hp hh =>
    (show ∀ e ∈ held.points, ∀ n ∈ e.2.content.states, (held.states.at? n).isSome = true by decide +kernel)
      _ (Table.mem_of_at? _ k p hp) h hh
  curvesPresent := fun k p h hp hh => by
    have all : ∀ e ∈ held.points, e.2.content.curve? = none ∨ e.2.content.curve? = some 1 := by decide +kernel
    rcases all _ (Table.mem_of_at? _ k p hp) with e | e <;> simp_all
    subst_vars
    rfl
  stateCounts := fun h r hr =>
    (show ∀ e ∈ held.states, e.2.refCount = held.stateReferences e.1 by decide +kernel) _ (Table.mem_of_at? _ h r hr)
  curveCounts := fun h r hr =>
    (show ∀ e ∈ held.curves, e.2.refCount = held.curveReferences e.1 by decide +kernel) _ (Table.mem_of_at? _ h r hr)

theorem witness_ReferenceInvariantIsKept : ReferenceInv held := held_references

theorem witness_RunInvariantIsKept : RunInv held := by
  refine ⟨⟨by decide, by decide, by decide, ?_, ?_, by decide⟩, ?_⟩
  · intro h
    constructor
    · intro hq
      have : h = 1 ∨ h = 2 := by
        obtain ⟨e, he, rfl⟩ := hq
        exact (show ∀ e ∈ held.run.queue, e.handle = 1 ∨ e.handle = 2 by decide) e he
      rcases this with rfl | rfl
      · exact ⟨_, rfl, .inl rfl⟩
      · exact ⟨_, rfl, .inl rfl⟩
    · intro ⟨p, hp, _⟩
      exact (show ∀ e ∈ held.points, ∃ q ∈ held.run.queue, q.handle = e.1 by decide) _ (Table.mem_of_at? _ h p hp)
  · intro h
    constructor
    · exact nofun
    · intro ⟨p, hp, hs⟩
      exact absurd hs ((show ∀ e ∈ held.points, e.2.status ≠ .active by decide) _ (Table.mem_of_at? _ h p hp))
  · intro h p hp
    have : p = point shotContent .queued none (some passed) ∨ p = point searchContent .queued none none :=
      (show ∀ e ∈ held.points, e.2 = point shotContent .queued none (some passed) ∨
        e.2 = point searchContent .queued none none by decide) _ (Table.mem_of_at? _ h p hp)
    rcases this with rfl | rfl
    · exact ⟨rfl, nofun⟩
    · exact ⟨⟨by decide, by decide, by decide⟩, .inr rfl⟩

theorem held_revisions : RevisionInv held where
  results := fun h p r v hp hr hs hv => by
    have all : ∀ e ∈ held.points, e.2.result = none ∨
        e.2.result.bind (fun r => r.revision) = some 7 ∧ held.revisionOf e.2 = some 7 := by decide +kernel
    rcases all _ (Table.mem_of_at? _ h p hp) with e | ⟨e, f⟩
    · simp_all
    · simp_all
  working := fun w v hw _ => nomatch (show (none : Option Working) = some w from hw)

theorem witness_RevisionInvariantIsKept : RunInv held ∧ ReferenceInv held ∧ RevisionInv held :=
  ⟨witness_RunInvariantIsKept, held_references, held_revisions⟩

theorem witness_UnitInvariantIsKept : UnitInv planned where
  rest := fun _ => ⟨rfl, rfl, fun c => by cases c <;> exact ⟨rfl, rfl, rfl, rfl, rfl, rfl⟩⟩
  channels := fun c => by
    cases c <;> exact ⟨by unfold ChannelConfig.valid; decide, nofun, by decide, by decide, by decide, fun _ => by decide⟩
  inputs := fun n => by
    cases n <;> exact ⟨⟨by decide, by decide, trivial⟩, nofun, by decide, nofun, nofun⟩

theorem witness_TimeInvariantIsKept : TimeInv locked := locked_inv

theorem witness_ResultInvariantIsKept : ResultInv planned where
  results := fun h p r hp hr => by
    have : r = passed := by
      have all : ∀ e ∈ planned.points, e.2.result = none ∨ e.2.result = some passed := by decide +kernel
      rcases all _ (Table.mem_of_at? _ h p hp) with e | e <;> simp_all
    subst this
    exact ⟨by decide, fun _ => by decide, nofun, by decide, fun e he => by cases he; exact ⟨by decide, by decide⟩⟩
  working := nofun
end Sys2Proof.Tests
end

/-! The proofs for spec/02, R30 and R31: what the content check says of a breakpoint list, where a multiple falls on
it, and the rounded drop of the interpolation. -/

namespace Sys2Proof

/-! ## Rounding half up -/

/-- A whole number is at most a rounded quotient when it exceeds the quotient by at most a half. -/
theorem le_roundHalfUp_iff {k n d : Nat} (hd : 0 < d) : k ≤ roundHalfUp n d ↔ 2 * (k * d) ≤ 2 * n + d := by
  rw [roundHalfUp, Nat.le_div_iff_mul_le (by omega), Nat.mul_left_comm, Nat.add_comm d]

theorem roundHalfUp_zero (d : Nat) : roundHalfUp 0 d = 0 := Nat.div_eq_zero_iff.mpr (by omega)

/-- Rounding does not take a fraction of a whole number beyond it. -/
theorem roundHalfUp_mul_le {x w : Nat} (span : Nat) (hx : x < w) : roundHalfUp (span * x) w ≤ span := by
  by_contra above
  have rounded := (le_roundHalfUp_iff (k := span + 1) (by omega)).mp (Nat.lt_of_not_le above)
  have : span * x ≤ span * w := Nat.mul_le_mul_left span hx.le
  rw [Nat.add_one_mul span w] at rounded
  omega

/-- The rounded fraction is the whole exactly when what is missing is at most a half (R31). -/
theorem roundHalfUp_mul_eq_iff {x w : Nat} (span : Nat) (hx : x < w) :
    roundHalfUp (span * x) w = span ↔ 2 * (span * (w - x)) ≤ w := by
  have below := roundHalfUp_mul_le span hx
  have reached := le_roundHalfUp_iff (k := span) (n := span * x) (d := w) (by omega)
  have : span * x ≤ span * w := Nat.mul_le_mul_left span hx.le
  rw [Nat.mul_sub]
  omega

end Sys2Proof

namespace Sys2Proof.Machine

/-! ## Checked breakpoint lists -/

/-- A breakpoint may stand after another: its multiple is larger and its time no larger (R26). -/
def Follows (a b : Nat × Nat) : Prop := a.1 < b.1 ∧ b.2 ≤ a.2

theorem Follows.trans {a b c : Nat × Nat} (hab : Follows a b) (hbc : Follows b c) : Follows a c :=
  ⟨hab.1.trans hbc.1, hbc.2.trans hab.2⟩

/-- The check compares neighbours; then any two breakpoints stand in order. -/
theorem pairwise_follows_of_breakpointsOrdered :
    ∀ {bs : List (Nat × Nat)}, breakpointsOrdered bs = true → bs.Pairwise Follows
  | [], _ => .nil
  | [b], _ => List.pairwise_singleton Follows b
  | (m, t) :: (m', t') :: rest, h => by
    simp only [breakpointsOrdered, Bool.and_eq_true, decide_eq_true_eq] at h
    obtain ⟨⟨rises, falls⟩, tail⟩ := h
    have first : Follows (m, t) (m', t') := ⟨rises, falls⟩
    have ordered := pairwise_follows_of_breakpointsOrdered tail
    refine .cons (fun b hb => ?_) ordered
    rcases List.mem_cons.mp hb with rfl | later
    · exact first
    · exact first.trans (List.rel_of_pairwise_cons ordered later)

/-- What the content checks of a characteristic say of its breakpoints (R26). -/
theorem breakpoints_of_checkCurve {raw : RawCurve} {c : CurveContent} (h : checkCurve raw = some c) :
    c.breakpoints.Pairwise Follows ∧
      ∀ b ∈ c.breakpoints, 1000 ≤ b.1 ∧ b.1 ≤ 65535 ∧ 1000 ≤ b.2 ∧ b.2 ≤ 600000000 := by
  unfold checkCurve at h
  split at h
  case h_2 => cases h
  case h_1 =>
    split at h
    case isFalse => cases h
    case isTrue passed =>
      cases h
      simp only [Bool.and_eq_true, List.all_eq_true, decide_eq_true_eq, and_assoc] at passed
      obtain ⟨-, -, -, -, ranges, ordered⟩ := passed
      exact ⟨pairwise_follows_of_breakpointsOrdered ordered, ranges⟩

/-- Along an ordered list no multiple falls and no time rises. -/
theorem ordered_of_index_le {bs : List (Nat × Nat)} (ordered : bs.Pairwise Follows) {i j : Nat} {a b : Nat × Nat}
    (ha : bs[i]? = some a) (hb : bs[j]? = some b) (hij : i ≤ j) : a.1 ≤ b.1 ∧ b.2 ≤ a.2 := by
  rcases hij.eq_or_lt with rfl | before
  · cases ha.symm.trans hb
    exact ⟨le_rfl, le_rfl⟩
  · obtain ⟨hi, rfl⟩ := List.getElem?_eq_some_iff.mp ha
    obtain ⟨hj, rfl⟩ := List.getElem?_eq_some_iff.mp hb
    have follows := List.pairwise_iff_getElem.mp ordered i j hi hj before
    exact ⟨follows.1.le, follows.2⟩

/-- No time on an ordered list is above the first breakpoint's. -/
theorem time_le_head {bs : List (Nat × Nat)} (ordered : bs.Pairwise Follows) {i : Nat} {first b : Nat × Nat}
    (head : bs.head? = some first) (hb : bs[i]? = some b) : b.2 ≤ first.2 :=
  (ordered_of_index_le ordered (List.head?_eq_getElem?.symm.trans head) hb (Nat.zero_le i)).2

/-- No time on an ordered list is below the last breakpoint's. -/
theorem last_time_le {bs : List (Nat × Nat)} (ordered : bs.Pairwise Follows) {i : Nat} {b final : Nat × Nat}
    (hb : bs[i]? = some b) (last : bs.getLast? = some final) : final.2 ≤ b.2 := by
  obtain ⟨hi, -⟩ := List.getElem?_eq_some_iff.mp hb
  exact (ordered_of_index_le ordered hb (List.getLast?_eq_getElem?.symm.trans last) (by omega)).2

/-! ## Where a multiple falls -/

/-- A multiple at or above the second breakpoint of an ordered list is looked for from there on. -/
theorem expectedTime_of_second_le {a b : Nat × Nat} {rest : List (Nat × Nat)} {multiple : Nat}
    (ordered : (a :: b :: rest).Pairwise Follows) (second : b.1 ≤ multiple) :
    expectedTime (a :: b :: rest) multiple = expectedTime (b :: rest) multiple := by
  have first : a.1 < b.1 := (List.rel_of_pairwise_cons ordered List.mem_cons_self).1
  rw [expectedTime, if_neg (by omega), if_neg (by omega)]

/-- At or beyond the last breakpoint the expected time is the last one's (R30). -/
theorem expectedTime_of_last_le {multiple m t : Nat} :
    ∀ {bs : List (Nat × Nat)}, bs.Pairwise Follows → bs.getLast? = some (m, t) → m ≤ multiple →
      expectedTime bs multiple = some t
  | [], _, last, _ => nomatch last
  | [_], _, last, beyond => by
    cases last
    simp [expectedTime, beyond]
  | a :: b :: rest, ordered, last, beyond => by
    have tail := ordered.of_cons
    rw [List.getLast?_cons_cons] at last
    have second : b.1 ≤ m :=
      (ordered_of_index_le tail rfl (List.getLast?_eq_getElem?.symm.trans last) (Nat.zero_le _)).1
    rw [expectedTime_of_second_le ordered (second.trans beyond)]
    exact expectedTime_of_last_le tail last beyond

/-- On a segment the expected time is its first time less the rounded drop (R31). -/
theorem expectedTime_of_segment {multiple m t m' t' : Nat} (above : m ≤ multiple) (below : multiple < m') :
    ∀ {bs : List (Nat × Nat)} {k : Nat}, bs.Pairwise Follows → bs[k]? = some (m, t) → bs[k + 1]? = some (m', t') →
      expectedTime bs multiple = some (t - roundHalfUp ((t - t') * (multiple - m)) (m' - m))
  | [], _, _, start, _ => nomatch start
  | [_], _, _, _, stop => nomatch stop
  | _ :: _ :: _, 0, _, start, stop => by
    cases start
    cases stop
    rw [expectedTime, if_neg (by omega), if_pos below]
  | a :: b :: rest, k + 1, ordered, start, stop => by
    have tail := ordered.of_cons
    rw [List.getElem?_cons_succ] at start stop
    have second : b.1 ≤ m := (ordered_of_index_le tail rfl start (Nat.zero_le k)).1
    rw [expectedTime_of_second_le ordered (second.trans above)]
    exact expectedTime_of_segment above below tail start stop

/-- A multiple from the first breakpoint's up to below the last one's lies on a segment (R31). -/
theorem exists_segment {multiple : Nat} {final : Nat × Nat} (below : multiple < final.1) :
    ∀ {bs : List (Nat × Nat)} {first : Nat × Nat}, bs.head? = some first → bs.getLast? = some final →
      first.1 ≤ multiple → ∃ k a b, bs[k]? = some a ∧ bs[k + 1]? = some b ∧ a.1 ≤ multiple ∧ multiple < b.1
  | [], _, head, _, _ => nomatch head
  | [_], _, head, last, above => by
    cases head
    cases last
    exact absurd above (Nat.not_le.mpr below)
  | a :: b :: rest, _, head, last, above => by
    cases head
    by_cases here : multiple < b.1
    · exact ⟨0, a, b, rfl, rfl, above, here⟩
    · rw [List.getLast?_cons_cons] at last
      obtain ⟨k, segment⟩ := exists_segment below rfl last (Nat.le_of_not_lt here)
      exact ⟨k + 1, segment⟩

/-- No later segment of an ordered list holds a multiple that an earlier one holds. -/
theorem segment_le {bs : List (Nat × Nat)} (ordered : bs.Pairwise Follows) {multiple j k : Nat} {a b : Nat × Nat}
    (stop : bs[j + 1]? = some a) (below : multiple < a.1) (start : bs[k]? = some b) (above : b.1 ≤ multiple) :
    k ≤ j := by
  by_contra later
  have := (ordered_of_index_le ordered stop start (by omega)).1
  omega

/-! ## The two statements -/

/-- Where an expected time is formed, the working values carry it with its band (R32, R35). -/
theorem curveWorking_of_expectedTime {k : Characteristic} {fault : StateContent} {t : Nat} (percent absolute : Nat)
    (h : expectedTime k.content.breakpoints (multipleOf (quantityValue k.content.quantity fault) k.content.pickup) =
      some t) :
    curveWorking k fault percent absolute =
      .curve (multipleOf (quantityValue k.content.quantity fault) k.content.pickup) k.revision
        (bandAround t percent absolute) := by
  simp only [curveWorking, h]

/-- Settles O51: a checked list is ordered, so the search for a segment runs past every breakpoint to the last. -/
theorem beyondTheCurveTheLastTimeHolds : Obligations.BeyondTheCurveTheLastTimeHolds := by
  intro raw k fault percent absolute m t checked last multiple hw
  obtain ⟨ordered, ranges⟩ := breakpoints_of_checkCurve checked
  refine ⟨fun beyond => ?_, fun saturated => ?_⟩
  · exact curveWorking_of_expectedTime percent absolute (expectedTime_of_last_le ordered last beyond)
  · obtain ⟨-, atMost, -, -⟩ := ranges _ (List.mem_of_getLast? last)
    exact saturated ▸ atMost

/-- Settles O52: the one segment is found along the list; the rounded drop stays within the segment's span, and the
segment's times within the list's. -/
theorem onTheCurveTheTimeIsInterpolated : Obligations.OnTheCurveTheTimeIsInterpolated := by
  intro raw c multiple m1 t1 mn tn checked head last from_first before_last
  obtain ⟨ordered, ranges⟩ := breakpoints_of_checkCurve checked
  obtain ⟨k, ⟨m, t⟩, ⟨m', t'⟩, start, stop, above, below⟩ := exists_segment before_last head last from_first
  refine ⟨k, m, t, m', t', start, stop, above, below, ?_, ?_⟩
  · exact fun j a b ha hb hja hjb => le_antisymm (segment_le ordered stop below ha hja)
      (segment_le ordered hb hjb start above)
  · obtain ⟨startMultiple, -, -, startTime⟩ := ranges _ (List.mem_of_getElem? start)
    obtain ⟨-, stopMultiple, stopTime, -⟩ := ranges _ (List.mem_of_getElem? stop)
    have falls : t' ≤ t := (ordered_of_index_le ordered start stop (Nat.le_succ k)).2
    have fromFirst : t ≤ t1 := time_le_head ordered head start
    have toLast : tn ≤ t' := last_time_le ordered stop last
    have time := expectedTime_of_segment above below ordered start stop
    have inside : multiple - m < m' - m := by omega
    have drop := roundHalfUp_mul_le (t - t') inside
    have whole := roundHalfUp_mul_eq_iff (t - t') inside
    intro product q
    have hq : q = roundHalfUp product (m' - m) := by rw [roundHalfUp, Nat.add_comm]
    rw [← hq] at time drop whole
    rw [show m' - m - (multiple - m) = m' - multiple by omega] at whole
    refine ⟨?_, time, ?_, ?_, drop, by omega, by omega, by omega, by omega, by omega, ?_⟩
    · exact Nat.mul_lt_mul_of_lt_of_lt (by omega) (by omega)
    · rintro rfl
      simp [hq, product, roundHalfUp_zero]
    · rintro rfl
      simp [hq, product, roundHalfUp_zero]
    · rw [← whole]
      omega

end Sys2Proof.Machine

/-! What every operation of the machine keeps: the relation `Keeps`, the parts of the state each invariant reads, and
the updates that touch none of them. -/

namespace Sys2Proof.Machine

/-! ## What each invariant reads -/

section
variable {s u : State}

theorem LinkInv.of_port (hp : u.port = s.port) (h : LinkInv s) : LinkInv u := by
  unfold LinkInv
  rw [hp]
  exact h

theorem TimeInv.of_time (ht : u.time = s.time) (h : TimeInv s) : TimeInv u := by
  obtain ⟨setup, lock, history, intervals, label, held, counts⟩ := h
  constructor <;> rw [ht] <;> assumption

theorem TablesInv.of_tables (hp : u.points = s.points) (hs : u.states = s.states) (hc : u.curves = s.curves)
    (h : TablesInv s) : TablesInv u := by
  obtain ⟨points, states, curves, tags, tagged⟩ := h
  constructor <;> simp only [hp, hs, hc] <;> assumption

theorem ReferenceInv.of_tables (hp : u.points = s.points) (hs : u.states = s.states) (hc : u.curves = s.curves)
    (h : ReferenceInv s) : ReferenceInv u := by
  obtain ⟨tables, statesPresent, curvesPresent, stateCounts, curveCounts⟩ := h
  refine ⟨tables.of_tables hp hs hc, ?_, ?_, ?_, ?_⟩ <;>
    simp only [State.stateReferences, State.curveReferences, hp, hs, hc] <;> assumption

/-- The Run Controller's invariant reads the test points, the queue and the ACTIVE handle, and of the run state only
whether it is IDLE. -/
theorem RunInv.of_run (hp : u.points = s.points) (hq : u.run.queue = s.run.queue) (ha : u.run.active = s.run.active)
    (hi : u.run.state = .idle → s.run.state = .idle ∨ s.run.active = none) (h : RunInv s) : RunInv u := by
  obtain ⟨⟨room, distinct, markedFirst, waiting, active, idle⟩, searches⟩ := h
  refine ⟨⟨?_, ?_, ?_, ?_, ?_, fun e => ?_⟩, ?_⟩ <;> simp only [hp, hq, ha]
  case refine_6 => exact (hi e).elim idle id
  all_goals assumption

theorem RevisionInv.of_eq (hp : u.points = s.points) (hc : u.curves = s.curves) (ha : u.run.active = s.run.active)
    (hw : ∀ w, u.shot.working = some w → s.shot.working = some w) (h : RevisionInv s) : RevisionInv u := by
  obtain ⟨results, working⟩ := h
  constructor
  · simpa only [State.revisionOf, hp, hc] using results
  · intro w v h1 h2
    simpa only [State.revisionOf, State.activePoint, State.point?, hp, hc, ha] using working w v (hw w h1) h2

theorem ResultInv.of_eq (hp : u.points = s.points) (hw : ∀ w, u.shot.working = some w → s.shot.working = some w)
    (h : ResultInv s) : ResultInv u := by
  obtain ⟨results, working⟩ := h
  exact ⟨by simpa only [hp] using results, fun w e h1 h2 => working w e (hw w h1) h2⟩

theorem UnitInv.of_eq (hr : u.run.state = s.run.state) (hg : u.gen = s.gen) (ho : u.idleOutputs = s.idleOutputs)
    (hc : u.channels = s.channels) (hi : u.inputs = s.inputs) (h : UnitInv s) : UnitInv u := by
  obtain ⟨rest, channels, inputs⟩ := h
  refine ⟨?_, ?_, ?_⟩
  · simpa only [RestInv, State.channelAtRest, hr, hg, ho, hc] using rest
  · simpa only [hr, hc] using channels
  · simpa only [hr, hi] using inputs

end

/-! ## The relation -/

/-- From one state to another the level stands and every invariant is kept. A field an update does not speak of is
found unchanged. -/
structure Keeps (s u : State) : Prop where
  level : u.level = s.level := by rfl
  link : LinkInv s → LinkInv u := by exact LinkInv.of_port rfl
  time : TimeInv s → TimeInv u := by exact TimeInv.of_time rfl
  unit : UnitInv s → UnitInv u := by exact UnitInv.of_eq rfl rfl rfl rfl rfl
  refs : ReferenceInv s → ReferenceInv u := by exact ReferenceInv.of_tables rfl rfl rfl
  run : RunInv s → RunInv u := by exact RunInv.of_run rfl rfl rfl Or.inl
  result : ResultInv s → ResultInv u := by exact ResultInv.of_eq rfl fun _ => id
  revision : RunInv s → ReferenceInv s → RevisionInv s → RevisionInv u := by
    exact fun _ _ => RevisionInv.of_eq rfl rfl rfl fun _ => id

namespace Keeps
variable {s u v : State}

theorem refl (s : State) : Keeps s s where

theorem trans (h : Keeps s u) (k : Keeps u v) : Keeps s v where
  level := k.level.trans h.level
  link i := k.link (h.link i)
  time i := k.time (h.time i)
  unit i := k.unit (h.unit i)
  refs i := k.refs (h.refs i)
  run i := k.run (h.run i)
  result i := k.result (h.result i)
  revision r f i := k.revision (h.run r) (h.refs f) (h.revision r f i)

/-! ## Updates no invariant reads -/

theorem tick (s : State) (t : Tick) : Keeps s { s with tick := t } where

theorem pending (s : State) (q : List Instr) : Keeps s { s with pending := q } where

theorem advanceTo (s : State) (t : Tick) : Keeps s (s.advanceTo t) := by
  rcases s.advanceTo_eq t with h | h <;> rw [h]
  · exact tick s t
  · exact refl s

/-- The setup and the hold flag are read by no invariant. -/
theorem setup (s : State) (k : RunSetup) : Keeps s { s with run := { s.run with setup := k } } where

theorem hold (s : State) (b : Bool) : Keeps s { s with run := { s.run with hold := b } } where

/-! ## The port -/

/-- A change of the port that keeps the link's invariant. -/
theorem port {p : Port} (h : LinkInv s → LinkInv { s with port := p }) : Keeps s { s with port := p } where
  link := h

theorem respond (s : State) (code : ResultCode) (payload : List Byte) : Keeps s (s.respond code payload) :=
  port fun h => ⟨h.1, rfl, code.code, payload, rfl⟩

theorem accept (s : State) (payload : List Byte) : Keeps s (s.accept payload) := respond s _ _

theorem refuse (s : State) (code : ResultCode) : Keeps s (s.refuse code) := respond s _ _

theorem raiseQueueEmpty (s : State) : Keeps s s.raiseQueueEmpty := port id

theorem raiseTime (s : State) : Keeps s s.raiseTime := port id

theorem raiseChannelIf (s : State) (b : Bool) : Keeps s (s.raiseChannelIf b) := port id

/-! ## The shot record -/

/-- A change of the shot record that keeps the working values or clears them. -/
theorem shot {r : ShotRecord} (h : r.working = s.shot.working ∨ r.working = none) :
    Keeps s { s with shot := r } := by
  have kept : ∀ w, r.working = some w → s.shot.working = some w := by
    intro w hw
    rcases h with h | h <;> simp_all
  exact { result := ResultInv.of_eq rfl kept, revision := fun _ _ => RevisionInv.of_eq rfl rfl rfl kept }

theorem handNotes (s : State) (t : Tick) : Keeps s (s.handNotes t) := shot (.inl rfl)

theorem noteFaultEnd (s : State) (c : PointContent) (position : Nat) (t : Tick) :
    Keeps s (s.noteFaultEnd c position t) := by
  unfold State.noteFaultEnd
  split
  · exact shot (.inl rfl)
  · exact refl s

/-! ## The outputs, the channels and the inputs -/

/-- A change of the generator, the channels and the inputs that keeps their invariant. -/
theorem units {g : Generator} {o : BitVec 4} {c : PerChannel Channel} {i : PerInput Input}
    (h : UnitInv s → UnitInv { s with gen := g, idleOutputs := o, channels := c, inputs := i }) :
    Keeps s { s with gen := g, idleOutputs := o, channels := c, inputs := i } where
  unit := h

/-! ## The run state -/

/-- A change of the run state: IDLE is entered with no test point ACTIVE, play ends with the outputs at rest, PLAYING
ends with no configuration pending, and no state comes into play. -/
theorem runState {r : RunState} (idle : RunInv s → r = .idle → s.run.active = none)
    (rest : UnitInv s → UnitInv { s with run := { s.run with state := r } }) :
    Keeps s (s.setRun r) where
  run i := RunInv.of_run (s := s) rfl rfl rfl (fun e => .inr (idle i e)) i
  unit := rest

end Keeps

end Sys2Proof.Machine

/-! The outputs, the channels and the inputs: each operation keeps the unit records in range and the outputs at rest
where no state is in play (R75 to R111). -/

namespace Sys2Proof.Machine

/-! ## Channel records -/

section
variable {k : Channel} {c : Chan} {playing : Bool}

/-- A checked configuration is valid (R82). -/
theorem ChannelConfig.valid_of_check {raw : RawChannelConfig} {config : ChannelConfig}
    (h : checkChannel c raw = some config) : config.valid c := by
  unfold checkChannel at h
  split at h
  · rename_i ranges
    simp only [Bool.and_eq_true, decide_eq_true_eq, and_assoc] at ranges
    obtain ⟨range, off, offMax, gap, onMax, q, qMax, limit, limitMax⟩ := ranges
    cases h
    exact ⟨range, off, gap, onMax, q, qMax, limit, limitMax⟩
  · cases h

theorem Channel.inv.ofPlaying (h : k.inv c playing) (p : Bool) (hp : k.pending = none ∨ playing = false ∨ p = true) :
    k.inv c p :=
  { h with
    pending := fun config hc => by
      obtain ⟨play, valid⟩ := h.pending config hc
      refine ⟨?_, valid⟩
      rcases hp with hp | hp | hp
      · simp [hp] at hc
      · simp [hp] at play
      · exact hp }

theorem Channel.inv.rest (h : k.inv c playing) : k.rest.inv c playing :=
  { h with qualifying := Nat.zero_lt_of_lt h.qualifying }

theorem Channel.inv.enter (h : k.inv c playing) (applied : Nat) : (k.enter applied).inv c playing :=
  { h with qualifying := Nat.zero_lt_of_lt h.qualifying }

/-- A configuration put in force on a channel whose qualifying count is 0 (R82). -/
theorem Channel.inv.configure (h : k.inv c playing) {config : ChannelConfig} (valid : config.valid c)
    (zero : k.qualifying = 0) : (k.configure config).inv c playing where
  config := valid
  pending := h.pending
  qualifying := by
    obtain ⟨-, -, -, -, positive, -⟩ := valid
    show k.qualifying < config.qualifying
    omega
  overloads := h.overloads
  losses := h.losses
  fit f := by
    simp only [Channel.configure, Bool.and_eq_true, decide_eq_true_eq] at f
    exact f.2

@[simp] theorem Channel.applyPending_pending (k : Channel) : k.applyPending.pending = none := by
  unfold Channel.applyPending
  cases h : k.pending with
  | none => exact h
  | some config => rfl

theorem Channel.applyPending_rested (k : Channel) :
    k.applyPending.window = k.window ∧ k.applyPending.lost = k.lost ∧ k.applyPending.qualifying = k.qualifying := by
  unfold Channel.applyPending
  cases k.pending <;> exact ⟨rfl, rfl, rfl⟩

theorem Channel.inv.applyPending (h : k.inv c playing) (zero : k.qualifying = 0) :
    k.applyPending.inv c playing := by
  unfold Channel.applyPending
  cases hp : k.pending with
  | none => exact h
  | some config =>
    have done := h.configure (h.pending config hp).2 zero
    exact { done with pending := fun _ none => by cases none }

theorem Channel.inv.assertFault (h : k.inv c playing) (t : Tick) : (k.assertFault t).inv c playing :=
  { h with
    overloads := Nat.min_le_right _ _
    fit := fun f => by
      simp only [Channel.assertFault, Bool.and_eq_true, decide_eq_true_eq] at f
      exact f.2 }

theorem Channel.inv.service (h : k.inv c playing) : k.service.inv c playing :=
  { h with
    overloads := Nat.zero_le _
    losses := Nat.zero_le _
    fit := fun _ => by
      obtain ⟨-, -, -, -, -, -, positive, -⟩ := h.config
      exact positive }

/-- A class of a window moves the qualifying count within its range, the compliance and the loss count (R87). -/
theorem Channel.inv.classify (h : k.inv c playing) (ratio : Nat) : (k.classify ratio).inv c playing := by
  have zero : 0 < k.config.qualifying := Nat.zero_lt_of_lt h.qualifying
  unfold Channel.classify
  repeat' split
  case isTrue.isFalse.isTrue => exact { h with qualifying := zero, losses := Nat.min_le_right _ _ }
  case isTrue.isFalse.isFalse more => exact { h with qualifying := by simpa using more }
  case isFalse.isFalse.isTrue.isFalse more => exact { h with qualifying := by simpa using more }
  all_goals exact { h with qualifying := zero }

theorem Channel.inv.feed (h : k.inv c playing) (y : Synth) (t : Tick) (feedback : BitVec 16) :
    (k.feed y t feedback).inv c playing := by
  unfold Channel.feed
  cases k.window with
  | none => exact h
  | some w =>
    dsimp only
    split
    · exact h
    · have fed : ({ k with window := some (w.feed (windowSamples y.frequency) feedback).1, fedAt := some t } :
          Channel).inv c playing := { h with }
      split
      · exact fed
      · exact fed.classify _

/-- An unsupervised channel takes no feedback sample. -/
theorem Channel.feed_of_no_window (h : k.window = none) (y : Synth) (t : Tick) (feedback : BitVec 16) :
    k.feed y t feedback = k := by
  simp only [Channel.feed, h]

end

/-! ## Input records -/

section
variable {i : Input} {playing : Bool}

/-- A checked configuration is valid (R110). -/
theorem InputConfig.valid_of_check {raw : RawInputConfig} {config : InputConfig} (h : checkInput raw = some config) :
    config.valid := by
  unfold checkInput at h
  split at h
  · rename_i mode hm
    split at h
    · rename_i ranges
      simp only [Bool.and_eq_true, decide_eq_true_eq, and_assoc] at ranges
      obtain ⟨samples, most, -⟩ := ranges
      cases h
      refine ⟨samples, most, ?_⟩
      unfold inputModeOf at hm
      split at hm
      · cases hm
        trivial
      · split at hm
        · rename_i on
          simp only [Bool.and_eq_true, decide_eq_true_eq, and_assoc] at on
          cases hm
          exact on
        · cases hm
      · cases hm
    · cases h
  · cases h

theorem Input.inv.ofPlaying (h : i.inv playing) (p : Bool) (hp : i.pending = none ∨ playing = false ∨ p = true) :
    i.inv p :=
  { h with
    pending := fun config hc => by
      obtain ⟨play, valid⟩ := h.pending config hc
      refine ⟨?_, valid⟩
      rcases hp with hp | hp | hp
      · simp [hp] at hc
      · simp [hp] at play
      · exact hp }

theorem Input.inv.configure (h : i.inv playing) {config : InputConfig} (valid : config.valid) :
    (i.configure config).inv playing := { h with config := valid }

@[simp] theorem Input.applyPending_pending (i : Input) : i.applyPending.pending = none := by
  unfold Input.applyPending
  cases h : i.pending with
  | none => exact h
  | some config => rfl

theorem Input.inv.applyPending (h : i.inv playing) : i.applyPending.inv playing := by
  unfold Input.applyPending
  cases hp : i.pending with
  | none => exact h
  | some config => exact { h.configure (h.pending config hp).2 with pending := fun _ none => by cases none }

/-- The entry cleared at a start: a standing operate, or nothing (R102). -/
theorem Input.inv.cleared (h : i.inv playing) (t : Tick) :
    ({ i with entry := clearedEntry i.qualification t } : Input).inv playing := by
  unfold clearedEntry
  cases i.qualification <;>
    exact { h with bounces := Nat.zero_le _, released := by simp [TableEntry.clear], standing := by simp [TableEntry.clear] }

/-- A change recorded in an entry keeps the release and the standing mark with an operate (R103, R104). -/
theorem Input.inv.sample (h : i.inv playing) (t : Tick) (level : Bool) (started : Option Tick) :
    (i.sample t level started).inv playing := by
  obtain ⟨config, pending, bounces, released, standing⟩ := h
  cases started with
  | none => exact ⟨config, pending, bounces, released, standing⟩
  | some tick =>
    refine ⟨config, pending, ?_, ?_, ?_⟩ <;> simp only [Input.sample] <;>
      cases (qualify i.config.samples t level i.qualification).2 <;>
      simp only [TableEntry.record, TableEntry.recordOperate, TableEntry.recordRelease]
    case refine_1.bounce => exact Nat.min_le_right _ _
    case refine_1.operated => split <;> assumption
    case refine_1.released => split <;> assumption
    case refine_2.operated => split <;> simp_all
    case refine_2.released => split <;> simp_all
    case refine_3.operated => split <;> simp_all
    case refine_3.released => split <;> simp_all
    all_goals assumption

end

/-! ## The whole -/

section
variable {s : State}

/-- No configuration is held pending. -/
structure NothingPending (s : State) : Prop where
  channels : ∀ c, (s.channels.get c).pending = none
  inputs : ∀ n, (s.inputs.get n).pending = none

/-- Synthesisers that turn, tune or deliver keep what they play. -/
theorem UnitInv.ofSynths (h : UnitInv s) {g : Generator} (snapshot : g.snapshot = s.gen.snapshot)
    (outputs : g.outputs = s.gen.outputs)
    (synths : ∀ c, (g.synths.get c).applied = (s.gen.synths.get c).applied ∧
      (g.synths.get c).peak = (s.gen.synths.get c).peak ∧
      (g.synths.get c).clampNote = (s.gen.synths.get c).clampNote) :
    UnitInv { s with gen := g } := by
  refine ⟨fun still => ?_, h.channels, h.inputs⟩
  obtain ⟨none, idle, atRest⟩ := h.rest still
  refine ⟨snapshot.trans none, outputs.trans idle, fun c => ?_⟩
  obtain ⟨applied, peak, note⟩ := synths c
  obtain ⟨h1, h2, h3, records⟩ := atRest c
  exact ⟨applied.trans h1, peak.trans h2, note.trans h3, records⟩

/-- The inputs change within their ranges. -/
theorem UnitInv.ofInputs (h : UnitInv s) {i : PerInput Input}
    (kept : ∀ n, (s.inputs.get n).inv s.run.state.isPlaying → (i.get n).inv s.run.state.isPlaying) :
    UnitInv { s with inputs := i } :=
  ⟨h.rest, h.channels, fun n => kept n (h.inputs n)⟩

/-- One channel record changes within its ranges, and stays NORMAL and unsupervised where it is at rest. -/
theorem UnitInv.updateChannel (h : UnitInv s) (c : Chan) {f : Channel → Channel}
    (kept : (f (s.channels.get c)).inv c s.run.state.isPlaying)
    (rested : s.run.state.stateInPlay = false → (s.channels.get c).window = none → (f (s.channels.get c)).window = none ∧
      (f (s.channels.get c)).lost = (s.channels.get c).lost ∧
      (f (s.channels.get c)).qualifying = (s.channels.get c).qualifying) :
    UnitInv { s with channels := s.channels.update c f } := by
  refine ⟨fun still => ?_, fun d => ?_, h.inputs⟩
  · obtain ⟨none, idle, atRest⟩ := h.rest still
    refine ⟨none, idle, fun d => ?_⟩
    obtain ⟨h1, h2, h3, window, lost, count⟩ := atRest d
    by_cases hd : c = d
    · subst hd
      obtain ⟨w, l, q⟩ := rested still window
      simp only [State.channelAtRest, PerChannel.get_update, if_true]
      exact ⟨h1, h2, h3, w, l.trans lost, q.trans count⟩
    · simp only [State.channelAtRest, PerChannel.get_update, if_neg hd]
      exact ⟨h1, h2, h3, window, lost, count⟩
  · by_cases hd : c = d
    · subst hd
      simpa only [PerChannel.get_update, if_true] using kept
    · simpa only [PerChannel.get_update, if_neg hd] using h.channels d

theorem UnitInv.atRest (h : UnitInv s) (still : s.run.state.stateInPlay = false) : AtRest s := by
  obtain ⟨none, idle, atRest⟩ := h.rest still
  exact ⟨none, idle, atRest⟩

/-- A run state without play has no state in play. -/
theorem RunState.stateInPlay_of_not_playing {r : RunState} (h : r.isPlaying = false) : r.stateInPlay = false := by
  cases r with
  | playing p => cases h
  | _ => rfl

theorem State.toRest_atRest (s : State) : AtRest s.toRest where
  snapshot := rfl
  outputs := rfl
  channels c := by simp [State.channelAtRest, State.toRest, Synth.silence, Channel.rest]

theorem UnitInv.toRest (h : UnitInv s) : UnitInv s.toRest where
  rest _ := ⟨rfl, rfl, s.toRest_atRest.channels⟩
  channels c := by simpa [State.toRest] using (h.channels c).rest
  inputs := h.inputs

theorem State.applyPending_atRest (h : AtRest s) : AtRest s.applyPending where
  snapshot := h.snapshot
  outputs := h.outputs
  channels c := by
    obtain ⟨h1, h2, h3, window, lost, count⟩ := h.channels c
    obtain ⟨w, l, q⟩ := (s.channels.get c).applyPending_rested
    refine ⟨h1, h2, h3, ?_⟩
    simp only [State.applyPending, State.raiseChannelIf_channels, PerChannel.get_map]
    exact ⟨w.trans window, l.trans lost, q.trans count⟩

theorem State.applyPending_nothingPending (s : State) : NothingPending s.applyPending where
  channels c := by simp [State.applyPending]
  inputs n := by simp [State.applyPending]

theorem UnitInv.applyPending (h : UnitInv s) (rest : AtRest s) : UnitInv s.applyPending where
  rest _ :=
    have := State.applyPending_atRest rest
    ⟨this.snapshot, this.outputs, this.channels⟩
  channels c := by
    obtain ⟨-, -, -, -, -, zero⟩ := rest.channels c
    simpa [State.applyPending] using (h.channels c).applyPending zero
  inputs n := by simpa [State.applyPending] using (h.inputs n).applyPending

/-- The run state changes: play of a state ends with the outputs at rest, PLAYING with nothing pending. -/
theorem UnitInv.setRun (h : UnitInv s) {r : RunState}
    (rest : r.stateInPlay = false → s.run.state.stateInPlay = false ∨ AtRest s)
    (pending : r.isPlaying = false → s.run.state.isPlaying = false ∨ NothingPending s) :
    UnitInv (s.setRun r) where
  rest still :=
    have : AtRest s := (rest still).elim h.atRest id
    ⟨this.snapshot, this.outputs, this.channels⟩
  channels c := (h.channels c).ofPlaying _ <| by
    show (s.channels.get c).pending = none ∨ _ ∨ r.isPlaying = true
    cases hr : r.isPlaying
    · exact (pending hr).elim (.inr ∘ .inl) fun p => .inl (p.channels c)
    · exact .inr (.inr rfl)
  inputs n := (h.inputs n).ofPlaying _ <| by
    show (s.inputs.get n).pending = none ∨ _ ∨ r.isPlaying = true
    cases hr : r.isPlaying
    · exact (pending hr).elim (.inr ∘ .inl) fun p => .inl (p.inputs n)
    · exact .inr (.inr rfl)

/-- A state is entered: the channels' counts begin at 0, and no rest is claimed. -/
theorem UnitInv.enterState (h : UnitInv s) (handle : Nat) (content : StateContent) (t : Tick) {r : RunState}
    (inPlay : r.stateInPlay = true) (playing : r.isPlaying = true) :
    UnitInv ((s.enterState handle content t).setRun r) where
  rest still := by
    have : r.stateInPlay = false := still
    simp [inPlay] at this
  channels c := by
    have := ((h.channels c).enter
      (appliedAmplitude (content.settings.get c).amplitude (s.channels.get c).config.range)).ofPlaying true (.inr (.inr rfl))
    simpa [State.enterState, playing] using this
  inputs n := by
    show (s.inputs.get n).inv r.isPlaying
    exact (h.inputs n).ofPlaying _ (.inr (.inr playing))

end

namespace Keeps
variable {s : State}

/-! ## The generator -/

/-- Synthesisers that turn, tune or deliver keep what they play. -/
theorem synths {g : Generator} (snapshot : g.snapshot = s.gen.snapshot) (outputs : g.outputs = s.gen.outputs)
    (synths : ∀ c, (g.synths.get c).applied = (s.gen.synths.get c).applied ∧
      (g.synths.get c).peak = (s.gen.synths.get c).peak ∧
      (g.synths.get c).clampNote = (s.gen.synths.get c).clampNote) : Keeps s { s with gen := g } :=
  units fun h => h.ofSynths snapshot outputs synths

theorem arrive (s : State) (t : Tick) : Keeps s { s with gen := s.gen.arrive t } := by
  unfold Generator.arrive
  split
  · exact refl s
  · exact synths rfl rfl fun c => by simp [Synth.turn]

theorem atInstant (s : State) (t : Tick) : Keeps s (s.atInstant t) := by
  rw [show s.atInstant t = { s.advanceTo t with gen := (s.advanceTo t).gen.arrive t } by simp [State.atInstant]]
  exact (advanceTo s t).trans (arrive _ t)

theorem deliver (s : State) : Keeps s s.deliver := synths rfl rfl fun c => by simp

theorem tuneTo (s : State) (c : StateContent) : Keeps s (s.tuneTo c) := synths rfl rfl fun c => by simp [Synth.tune]

theorem zero (s : State) (t : Tick) : Keeps s { s with gen := s.gen.zero t } :=
  synths rfl rfl fun c => by simp [Generator.zero]

/-! ## Channels and inputs -/

/-- One channel record changes within its ranges. -/
theorem channel (c : Chan) {f : Channel → Channel}
    (kept : UnitInv s → (f (s.channels.get c)).inv c s.run.state.isPlaying)
    (rested : s.run.state.stateInPlay = false → (s.channels.get c).window = none → (f (s.channels.get c)).window = none ∧
      (f (s.channels.get c)).lost = (s.channels.get c).lost ∧
      (f (s.channels.get c)).qualifying = (s.channels.get c).qualifying) :
    Keeps s { s with channels := s.channels.update c f } :=
  units fun h => h.updateChannel c (kept h) rested

/-- The inputs change within their ranges. -/
theorem inputs {i : PerInput Input}
    (kept : ∀ n, (s.inputs.get n).inv s.run.state.isPlaying → (i.get n).inv s.run.state.isPlaying) :
    Keeps s { s with inputs := i } :=
  units fun h => h.ofInputs kept

/-! ## Rest and pending configurations -/

theorem toRest (s : State) : Keeps s s.toRest := units UnitInv.toRest

theorem applyPending (rest : AtRest s) : Keeps s s.applyPending where
  link := id
  unit h := h.applyPending rest

/-! ## The run state -/

/-- The run state changes to another than IDLE. -/
theorem setRun {r : RunState} (busy : r ≠ .idle)
    (rest : r.stateInPlay = false → s.run.state.stateInPlay = false ∨ AtRest s)
    (pending : r.isPlaying = false → s.run.state.isPlaying = false ∨ NothingPending s) : Keeps s (s.setRun r) :=
  runState (fun _ e => absurd e busy) fun h => h.setRun rest pending

/-- The run state changes where the controller is not PLAYING, to one with no state in play. -/
theorem setRun_still {r : RunState} (busy : r ≠ .idle) (still : s.run.state.isPlaying = false) : Keeps s (s.setRun r) :=
  setRun busy (fun _ => .inl (RunState.stateInPlay_of_not_playing still)) fun _ => .inl still

/-- IDLE is entered where no test point is ACTIVE. -/
theorem setIdle (idle : RunInv s → s.run.active = none) (still : s.run.state.isPlaying = false) :
    Keeps s (s.setRun .idle) :=
  runState (fun h _ => idle h) fun h =>
    h.setRun (fun _ => .inl (RunState.stateInPlay_of_not_playing still)) fun _ => .inl still

end Keeps

end Sys2Proof.Machine

/-! One test point changes: what each invariant of the records asks of the new record, the queue's order, and the
contexts and results the machine forms (R41 to R47, R121 to R126, R133 to R140). -/

namespace Sys2Proof.Machine

/-! ## Tables seen through a function of their records -/

section
variable {α β : Type}

/-- A table with a function of each record in place of the record. -/
def Table.through (t : Table α) (f : α → β) : Table β := t.map fun e => (e.1, f e.2)

theorem Table.at?_through (t : Table α) (f : α → β) (h : Nat) : (t.through f).at? h = (t.at? h).map f := by
  induction t with
  | nil => rfl
  | cons e t ih =>
    by_cases he : e.1 = h
    · simp [Table.through, Table.at?, he]
    · simpa [Table.through, Table.at?, he] using ih

theorem Table.through_handles (t : Table α) (f : α → β) : (t.through f).map Prod.fst = t.map Prod.fst := by
  simp [Table.through, List.map_map, Function.comp_def]

theorem Table.change_through (t : Table α) (h : Nat) {g : α → α} {f : α → β} (kept : ∀ a, f (g a) = f a) :
    Table.through (t.change h g) f = t.through f := by
  induction t with
  | nil => rfl
  | cons e t ih =>
    obtain ⟨k, b⟩ := e
    have head : f (if k = h then g b else b) = f b := by split <;> simp [kept]
    simpa [Table.through, Table.change, head] using ih

theorem Table.changeAll_through (t : Table α) {g : Nat → α → α} {f : α → β} (kept : ∀ k a, f (g k a) = f a) :
    Table.through (t.changeAll g) f = t.through f := by
  induction t with
  | nil => rfl
  | cons e t ih => simpa [Table.through, Table.changeAll, kept] using ih

end

/-! ## Records whose contents stand -/

section
variable {s u : State}

/-- The invariant of the tables reads of a test point only its content. -/
theorem ReferenceInv.of_contents (h : ReferenceInv s)
    (hp : Table.through u.points TestPoint.content = Table.through s.points TestPoint.content)
    (hs : u.states = s.states) (hc : u.curves = s.curves) : ReferenceInv u := by
  have content : ∀ k, (u.points.at? k).map TestPoint.content = (s.points.at? k).map TestPoint.content := by
    intro k
    rw [← Table.at?_through, ← Table.at?_through, hp]
  have back : ∀ {k p}, u.points.at? k = some p → ∃ q, s.points.at? k = some q ∧ q.content = p.content := by
    intro k p hk
    have := content k
    rw [hk, Option.map_some, eq_comm, Option.map_eq_some_iff] at this
    exact this
  have handles : s.points.map Prod.fst = u.points.map Prod.fst := by
    rw [← Table.through_handles s.points TestPoint.content, ← Table.through_handles u.points TestPoint.content, hp]
  have stateReferences : ∀ k, u.stateReferences k = s.stateReferences k := by
    intro k
    have := congrArg (fun t => (t.map fun e : Nat × PointContent => e.2.states.count k).sum) hp
    simpa [State.stateReferences, Table.through, Function.comp_def] using this
  have curveReferences : ∀ k, u.curveReferences k = s.curveReferences k := by
    intro k
    have := congrArg (fun t => (t.filter fun e : Nat × PointContent => decide (e.2.curve? = some k)).length) hp
    simpa [State.curveReferences, Table.through, List.filter_map, Function.comp_def] using this
  obtain ⟨⟨points, states, curves, tags, tagged⟩, statesPresent, curvesPresent, stateCounts, curveCounts⟩ := h
  refine ⟨⟨Table.wf_of_handles _ _ _ handles points, by rwa [hs], by rwa [hc], ?_, ?_⟩, ?_, ?_, ?_, ?_⟩
  · intro k p j q hk hj same
    obtain ⟨p', hp', ep⟩ := back hk
    obtain ⟨q', hq', eq⟩ := back hj
    exact tags k p' j q' hp' hq' (by rw [ep, eq, same])
  · intro k p hk
    obtain ⟨p', hp', ep⟩ := back hk
    exact ep ▸ tagged k p' hp'
  · intro k p j hk hj
    obtain ⟨p', hp', ep⟩ := back hk
    exact hs ▸ statesPresent k p' j hp' (ep ▸ hj)
  · intro k p j hk hj
    obtain ⟨p', hp', ep⟩ := back hk
    exact hc ▸ curvesPresent k p' j hp' (ep ▸ hj)
  · intro k r hk
    rw [stateReferences]
    exact stateCounts k r (hs ▸ hk)
  · intro k r hk
    rw [curveReferences]
    exact curveCounts k r (hc ▸ hk)

/-! ## One record changes -/

/-- One test point's record is replaced, put or dropped, and the queue and the ACTIVE handle with it. -/
theorem RunInv.update (i : RunInv s) {h : Nat} {o : Option TestPoint} (here : u.points.at? h = o)
    (others : ∀ k, k ≠ h → u.points.at? k = s.points.at? k)
    (room : u.run.queue.length ≤ Config.queueEntries) (distinct : (u.run.queue.map fun e => e.handle).Nodup)
    (markedFirst : u.run.queue = (u.run.queue.filter fun e => e.marked) ++ u.run.queue.filter fun e => !e.marked)
    (queued : ∀ k, k ≠ h → ((∃ e ∈ u.run.queue, e.handle = k) ↔ ∃ e ∈ s.run.queue, e.handle = k))
    (waiting : (∃ e ∈ u.run.queue, e.handle = h) ↔ ∃ q, o = some q ∧ (q.status = .queued ∨ q.status = .suspended))
    (stillActive : ∀ k, k ≠ h → (u.run.active = some k ↔ s.run.active = some k))
    (active : u.run.active = some h ↔ ∃ q, o = some q ∧ q.status = .active)
    (idle : u.run.state = .idle → u.run.active = none)
    (search : ∀ q, o = some q → q.searchInv) : RunInv u := by
  refine ⟨⟨room, distinct, markedFirst, fun k => ?_, fun k => ?_, idle⟩, fun k p hk => ?_⟩
  · by_cases hk : k = h
    · subst hk
      rw [here]
      exact waiting
    · rw [queued k hk, others k hk]
      exact i.queue.waiting k
  · by_cases hk : k = h
    · subst hk
      rw [here]
      exact active
    · rw [stillActive k hk, others k hk]
      exact i.queue.active k
  · by_cases h' : k = h
    · subst h'
      exact search p (here ▸ hk)
    · exact i.searches k p (others k h' ▸ hk)

/-- One test point's record is replaced, put or dropped, its queue entry and its part in the run as they were. -/
theorem RunInv.update_record (i : RunInv s) {h : Nat} {o : Option TestPoint} (here : u.points.at? h = o)
    (others : ∀ k, k ≠ h → u.points.at? k = s.points.at? k) (run : u.run = s.run)
    (status : ∀ x, x ≠ Status.idle → ((∃ q, o = some q ∧ q.status = x) ↔ ∃ p, s.points.at? h = some p ∧ p.status = x))
    (search : ∀ q, o = some q → q.searchInv) : RunInv u := by
  have ⟨⟨room, distinct, markedFirst, waiting, active, idle⟩, _⟩ := i
  refine i.update here others (run ▸ room) (run ▸ distinct) (run ▸ markedFirst) (fun _ _ => by rw [run]) ?_
    (fun _ _ => by rw [run]) ?_ (run ▸ idle) search
  · rw [run, waiting h]
    simp only [and_or_left, exists_or]
    rw [status _ (by decide), status _ (by decide)]
  · rw [run, active h, status _ (by decide)]

/-- The ACTIVE test point of the Run Controller's invariant is the one with status ACTIVE. -/
theorem RunInv.status_of_active (i : RunInv s) {h : Nat} {p : TestPoint} (ha : s.activePoint = some (h, p)) :
    p.status = .active := by
  obtain ⟨ha, hp⟩ := (s.activePoint_eq_some h p).1 ha
  obtain ⟨q, hq, status⟩ := (i.queue.active h).1 ha
  cases hp.symm.trans hq
  exact status

/-- With no present ACTIVE test point none is named ACTIVE. -/
theorem RunInv.active_none (i : RunInv s) (ha : s.activePoint = none) : s.run.active = none := by
  cases h : s.run.active with
  | none => rfl
  | some k =>
    obtain ⟨p, hp, -⟩ := (i.queue.active k).1 h
    simp [(s.activePoint_eq_some k p).2 ⟨h, hp⟩] at ha

theorem ResultInv.update (i : ResultInv s) {h : Nat} {o : Option TestPoint} (here : u.points.at? h = o)
    (others : ∀ k, k ≠ h → u.points.at? k = s.points.at? k)
    (result : ∀ q r, o = some q → q.result = some r → r.inv)
    (working : ∀ w, u.shot.working = some w → s.shot.working = some w) : ResultInv u where
  results k p r hk hr := by
    by_cases h' : k = h
    · subst h'
      exact result p r (here ▸ hk) hr
    · exact i.results k p r (others k h' ▸ hk) hr
  working w e h1 h2 := i.working w e (working w h1) h2

/-- The revision a test point names stands where the revisions of the characteristics stand. -/
theorem State.revisionOf_congr (hc : ∀ k v, (s.curves.at? k).map Characteristic.revision = some v →
      (u.curves.at? k).map Characteristic.revision = some v) {p : TestPoint} {v : Nat}
    (h : s.revisionOf p = some v) : u.revisionOf p = some v := by
  unfold State.revisionOf at h ⊢
  cases hk : p.content.curve? with
  | none => simp [hk] at h
  | some k =>
    rw [hk] at h
    exact hc k v h

theorem RevisionInv.update (i : RevisionInv s) {h : Nat} {o : Option TestPoint} (here : u.points.at? h = o)
    (others : ∀ k, k ≠ h → u.points.at? k = s.points.at? k)
    (curves : ∀ k v, (s.curves.at? k).map Characteristic.revision = some v →
      (u.curves.at? k).map Characteristic.revision = some v)
    (result : ∀ q r v, o = some q → q.result = some r → r.flags.stale = false → r.revision = some v →
      s.revisionOf q = some v)
    (working : ∀ w v, u.shot.working = some w → w.revision? = some v →
      ∃ h p, u.activePoint = some (h, p) ∧ s.revisionOf p = some v) : RevisionInv u where
  results k p r v hk hr fresh hv := by
    refine State.revisionOf_congr curves ?_
    by_cases h' : k = h
    · subst h'
      exact result p r v (here ▸ hk) hr fresh hv
    · exact i.results k p r v (others k h' ▸ hk) hr fresh hv
  working w v h1 h2 := by
    obtain ⟨k, p, ha, hv⟩ := working w v h1 h2
    exact ⟨k, p, ha, State.revisionOf_congr curves hv⟩

/-- With no present ACTIVE test point the working values carry no revision. -/
theorem RevisionInv.no_working (i : RevisionInv s) (ha : s.activePoint = none) {w : Working} {v : Nat}
    (hw : s.shot.working = some w) (hv : w.revision? = some v) : False := by
  obtain ⟨h, p, hp, -⟩ := i.working w v hw hv
  simp [ha] at hp

end

/-! ## The queue's order -/

/-- Marked entries stand first exactly where the queue falls into marked entries and unmarked ones (R41). -/
theorem markedFirst_iff (q : List QueueEntry) :
    (q = (q.filter fun e => e.marked) ++ q.filter fun e => !e.marked) ↔
      ∃ ms us, q = ms ++ us ∧ (∀ e ∈ ms, e.marked = true) ∧ ∀ e ∈ us, e.marked = false := by
  constructor
  · intro h
    exact ⟨_, _, h, fun e he => by simpa using (List.mem_filter.1 he).2, fun e he => by simpa using (List.mem_filter.1 he).2⟩
  · rintro ⟨ms, us, rfl, marked, unmarked⟩
    have h1 : ms.filter (fun e => e.marked) = ms := List.filter_eq_self.2 marked
    have h2 : ms.filter (fun e => !e.marked) = [] := by simpa using marked
    have h3 : us.filter (fun e => e.marked) = [] := by simpa using unmarked
    have h4 : us.filter (fun e => !e.marked) = us := by simpa using unmarked
    simp [List.filter_append, h1, h2, h3, h4]

/-- An entry inserted after the marked entries stands between them and the unmarked ones (R43, R45). -/
theorem insertAfterMarked_append {ms us : List QueueEntry} (marked : ∀ e ∈ ms, e.marked = true)
    (unmarked : ∀ e ∈ us, e.marked = false) (e : QueueEntry) : insertAfterMarked (ms ++ us) e = ms ++ e :: us := by
  have taken : (ms ++ us).takeWhile (fun k => k.marked) = ms := by
    rw [List.takeWhile_append_of_pos marked]
    cases us with
    | nil => simp
    | cons u us => simp [unmarked u]
  have dropped : (ms ++ us).dropWhile (fun k => k.marked) = us := by
    rw [List.dropWhile_append_of_pos marked]
    cases us with
    | nil => simp
    | cons u us => simp [unmarked u]
  rw [insertAfterMarked, taken, dropped]

/-- An entry inserted after the marked entries keeps marked entries first. -/
theorem markedFirst_insertAfterMarked {q : List QueueEntry}
    (h : q = (q.filter fun e => e.marked) ++ q.filter fun e => !e.marked) (e : QueueEntry) :
    insertAfterMarked q e = ((insertAfterMarked q e).filter fun k => k.marked) ++
      (insertAfterMarked q e).filter fun k => !k.marked := by
  obtain ⟨ms, us, rfl, marked, unmarked⟩ := (markedFirst_iff q).1 h
  rw [insertAfterMarked_append marked unmarked, markedFirst_iff]
  cases he : e.marked
  · exact ⟨ms, e :: us, rfl, marked, by simpa [he] using unmarked⟩
  · refine ⟨ms ++ [e], us, by simp, ?_, unmarked⟩
    simpa [or_imp, forall_and, he] using marked

/-- An unmarked entry at the tail keeps marked entries first. -/
theorem markedFirst_append {q : List QueueEntry}
    (h : q = (q.filter fun e => e.marked) ++ q.filter fun e => !e.marked) {e : QueueEntry} (he : e.marked = false) :
    (q ++ [e]) = ((q ++ [e]).filter fun k => k.marked) ++ (q ++ [e]).filter fun k => !k.marked := by
  obtain ⟨ms, us, rfl, marked, unmarked⟩ := (markedFirst_iff q).1 h
  refine (markedFirst_iff _).2 ⟨ms, us ++ [e], by simp, marked, ?_⟩
  simpa [or_imp, forall_and, he] using unmarked

/-- Entries taken out leave marked entries first. -/
theorem markedFirst_sublist {q r : List QueueEntry} (hr : r.Sublist q)
    (h : q = (q.filter fun e => e.marked) ++ q.filter fun e => !e.marked) :
    r = (r.filter fun e => e.marked) ++ r.filter fun e => !e.marked := by
  obtain ⟨ms, us, rfl, marked, unmarked⟩ := (markedFirst_iff q).1 h
  obtain ⟨r1, r2, rfl, h1, h2⟩ := List.sublist_append_iff.1 hr
  exact (markedFirst_iff _).2 ⟨r1, r2, rfl, fun e he => marked e (h1.subset he), fun e he => unmarked e (h2.subset he)⟩

/-! ## Search contexts -/

theorem SearchParams.firstContext_inBounds {p : SearchParams} (h : p.valid) : p.firstContext.inBounds p := by
  obtain ⟨order, -, shots⟩ := h
  exact ⟨le_refl _, order, le_refl _, by simp only [SearchParams.firstContext]; omega, fun _ => rfl,
    (fun e => nomatch e), .inr ⟨rfl, rfl⟩⟩

/-- The convergence test goes on only with the context it was given, its limits further apart than the resolution and
shots remaining (R137). -/
theorem testConvergence_goOn {p : SearchParams} {c c' : SearchContext} (h : testConvergence p c = .goOn c') :
    c' = c ∧ p.resolution < c.upper - c.lower ∧ c.shotsUsed ≠ p.maximumShots := by
  unfold testConvergence at h
  split at h
  · cases h
  · split at h
    · cases h
    · cases h
      exact ⟨rfl, by omega, by assumption⟩

/-- A search that goes on keeps its context in bounds (R133, R136, R137). -/
theorem searchStep_inBounds {p : SearchParams} {c c' : SearchContext} {tripped doubt : Bool} (valid : p.valid)
    (bounds : c.inBounds p) (h : searchStep p c tripped doubt = .goOn c') : c'.inBounds p := by
  obtain ⟨order, resolution, shots⟩ := valid
  obtain ⟨low, between, high, used, first, second, limits⟩ := bounds
  unfold searchStep at h
  dsimp only at h
  split at h
  · cases h
  · split at h
    · rename_i phase
      simp only [SearchNext.goOn.injEq] at h
      subst h
      have := first phase
      exact ⟨low, between, high, by simp only; omega, (fun e => nomatch e), fun _ => by simp only; omega,
        .inr (limits.resolve_left (by simp [phase]))⟩
    · cases h
    · cases h
    all_goals
      obtain ⟨rfl, apart, more⟩ := testConvergence_goOn h
      rename_i phase
      simp only [trialOf, phase] at apart more ⊢
      exact ⟨by simp only; omega, by simp only; omega, by simp only; omega, by simp only; omega,
        (fun e => nomatch e), (fun e => nomatch e), .inl rfl⟩

/-! ## Results -/

/-- A band lies around its time (R32). -/
theorem bandAround_ordered (time percent absolute : Nat) : (bandAround time percent absolute).ordered :=
  ⟨Nat.sub_le _ _, Nat.le_add_right _ _⟩

theorem curveWorking_ordered (k : Characteristic) (fault : StateContent) (percent absolute : Nat) {e : Expected}
    (h : (curveWorking k fault percent absolute).expected? = some e) : e.ordered := by
  unfold curveWorking at h
  dsimp only at h
  split at h <;> simp only [Working.expected?, reduceCtorEq, Option.some.injEq] at h
  exact h ▸ bandAround_ordered _ _ _

theorem curveWorking_revision (k : Characteristic) (fault : StateContent) (percent absolute : Nat) :
    (curveWorking k fault percent absolute).revision? = some k.revision := by
  unfold curveWorking
  dsimp only
  split <;> rfl

/-- The working values formed at inception hold an expected time in its band (R35). -/
theorem State.formWorking_ordered {s : State} {c : PointContent} {fault : StateContent} {w : Working} {e : Expected}
    (hw : s.formWorking c fault = some w) (he : w.expected? = some e) : e.ordered := by
  unfold State.formWorking at hw
  split at hw
  · cases hw
  · cases hw
    cases he
  · cases hw
    cases he
  · cases hw
    cases he
    exact bandAround_ordered _ _ _
  · obtain ⟨k, -, rfl⟩ := Option.map_eq_some_iff.1 hw
    exact curveWorking_ordered _ _ _ _ he

/-- The working values formed at inception carry the revision the content's characteristic has (R36). -/
theorem State.formWorking_revision {s : State} {p : TestPoint} {fault : StateContent} {w : Working} {v : Nat}
    (hw : s.formWorking p.content fault = some w) (hv : w.revision? = some v) : s.revisionOf p = some v := by
  unfold State.formWorking at hw
  split at hw
  · cases hw
  · cases hw
    cases hv
  · cases hw
    cases hv
  · cases hw
    cases hv
  · rename_i k percent absolute kind
    obtain ⟨c, hc, rfl⟩ := Option.map_eq_some_iff.1 hw
    rw [curveWorking_revision] at hv
    simpa [State.revisionOf, PointContent.curve?, kind, hc] using hv

/-- The verdict by the expectation is never ABORTED; SHORT_WINDOW comes with INCONCLUSIVE and no measured time (R122). -/
theorem expectationVerdict_spec (w : Working) (measured : Option Nat) (window : Nat) :
    (expectationVerdict w measured window).1 ≠ .aborted ∧
    ((expectationVerdict w measured window).2 = true →
      (expectationVerdict w measured window).1 = .inconclusive ∧ measured = none) := by
  unfold expectationVerdict
  repeat' split
  all_goals simp_all

/-- The ordered decision never gives ABORTED, passes only without a finding, and adds SHORT_WINDOW only to an
INCONCLUSIVE verdict without a measured time (R121, R122). -/
theorem shotVerdict_spec (f : Findings) (w : Working) (measured : Option Nat) (window : Nat) :
    (shotVerdict f w measured window).1 ≠ .aborted ∧
    ((shotVerdict f w measured window).1 = .pass → f.prefault = false ∧ f.clamped = false ∧ f.compliance = false) ∧
    ((shotVerdict f w measured window).2 = true →
      (shotVerdict f w measured window).1 = .inconclusive ∧ measured = none) := by
  obtain ⟨aborted, short⟩ := expectationVerdict_spec w measured window
  unfold shotVerdict
  split
  · simp
  · split
    · simp
    · rename_i noPrefault noDoubt
      simp only [Bool.or_eq_true, not_or, Bool.not_eq_true] at noPrefault noDoubt
      exact ⟨aborted, fun _ => ⟨noPrefault, noDoubt⟩, short⟩

/-- The result of a shot is consistent where the working values are (R121 to R123). -/
theorem State.shotResult_inv {s : State} (h : ∀ w e, s.shot.working = some w → w.expected? = some e → e.ordered)
    (c : PointContent) (ended : Tick) (abort : Option AbortReason) : (s.shotResult c ended abort).inv := by
  have expected : ∀ e, s.shot.working.bind Working.expected? = some e → e.ordered := by
    intro e he
    obtain ⟨w, hw, he⟩ := Option.bind_eq_some_iff.1 he
    exact h w e hw he
  cases abort with
  | some reason =>
    exact ⟨by simp [State.shotResult], by simp [State.shotResult],
      by simp [State.shotResult, formedFlags], Nat.zero_le _, expected⟩
  | none =>
    obtain ⟨aborted, pass, short⟩ := shotVerdict_spec (s.findings c.monitored (s.shot.judgedEnd ended))
      (s.shot.working.getD .unjudged) s.shot.measured
      (match s.shot.inception with
       | some i => Tick.elapsed i ended
       | none => 0)
    refine ⟨⟨(fun e => nomatch e), fun e => absurd e aborted⟩, pass, fun e => ?_, Nat.zero_le _, expected⟩
    · obtain ⟨verdict, measured⟩ := short e
      exact ⟨verdict, by simp [State.shotResult, measured]⟩

theorem bareAbort_inv (reason : AbortReason) : (bareAbort reason).inv :=
  ⟨by simp [bareAbort], by simp [bareAbort], by simp [bareAbort, formedFlags], Nat.zero_le _, by simp [bareAbort]⟩

/-- The result of a search is consistent where its reason stands with ABORTED and PASS comes without a finding. -/
theorem searchResult_inv {verdict : Verdict} {reason : Option AbortReason} {f : Findings}
    (aborted : reason.isSome ↔ verdict = .aborted) (pass : verdict = .pass → f.any = false) (c : SearchContext)
    (boundary : Option Nat) (operated : List OperatedEntry) :
    (searchResult verdict reason c boundary f operated).inv := by
  refine ⟨aborted, fun e => ?_, ?_, Nat.zero_le _, ?_⟩
  · simpa [Findings.any, and_assoc, searchResult, formedFlags] using pass e
  · simp [searchResult, formedFlags]
  · simp [searchResult]

theorem searchAbort_inv (reason : AbortReason) (c : SearchContext) : (searchAbort reason c).inv :=
  searchResult_inv (by simp) (by simp) c none []

theorem testConvergence_finish {p : SearchParams} {c c' : SearchContext} {verdict : Verdict} {boundary : Option Nat}
    (h : testConvergence p c = .finish verdict c' boundary) : verdict ≠ .aborted := by
  unfold testConvergence boundaryVerdict at h
  dsimp only at h
  repeat' split at h
  all_goals cases h
  all_goals decide

/-- A search never finishes ABORTED, and not with PASS on a doubtful shot (R136, R138). -/
theorem searchStep_finish {p : SearchParams} {c c' : SearchContext} {tripped doubt : Bool} {verdict : Verdict}
    {boundary : Option Nat} (h : searchStep p c tripped doubt = .finish verdict c' boundary) :
    verdict ≠ .aborted ∧ (verdict = .pass → doubt = false) := by
  unfold searchStep at h
  dsimp only at h
  split at h
  · cases h
    exact ⟨by decide, fun e => nomatch e⟩
  · rename_i sure
    refine ⟨?_, fun _ => by simpa using sure⟩
    split at h
    · cases h
    · cases h
      decide
    · cases h
      decide
    all_goals exact testConvergence_finish h

/-- A posted result is consistent where the formed one is: its run count saturates (R126). -/
theorem TestPoint.post_result_inv {r : Result} {p : TestPoint} (hr : r.inv) (hp : ∀ k, p.result = some k → k.inv) :
    ∀ k, (p.post r).result = some k → k.inv := by
  rintro _ ⟨rfl⟩
  obtain ⟨reason, pass, short, -, expected⟩ := hr
  refine ⟨reason, pass, short, ?_, expected⟩
  show nextRunCount p.result _ ≤ 255
  unfold nextRunCount
  split
  · split <;> omega
  · rename_i k hk
    split
    · exact Nat.min_le_right _ _
    · exact (hp k hk).runCount

theorem State.abortResult_inv {s : State} (h : ResultInv s) (p : TestPoint) (reason : AbortReason) (t : Tick) :
    (s.abortResult p reason t).inv := by
  unfold State.abortResult
  split
  · split
    · exact State.shotResult_inv h.working _ _ _
    · exact bareAbort_inv reason
  · dsimp only
    split
    · exact searchResult_inv (by simp) (by simp) _ _ _
    · exact searchAbort_inv reason _

/-- An ABORTED result carries the revision of the working values, or none. -/
theorem State.abortResult_revision (s : State) (p : TestPoint) (reason : AbortReason) (t : Tick) :
    (s.abortResult p reason t).revision = none ∨
      (s.abortResult p reason t).revision = s.shot.working.bind Working.revision? := by
  unfold State.abortResult
  split
  · split
    · exact .inr rfl
    · exact .inl rfl
  · dsimp only
    split <;> exact .inl rfl

end Sys2Proof.Machine

/-! The shared operations of the Run Controller keep every invariant: postings, aborts, state entries, shot ends, the
precheck, the queue and the end of REST (R41 to R64). -/

namespace Sys2Proof.Machine

/-! ## Search contexts by status -/

section
variable {p : TestPoint}

/-- An IDLE or QUEUED test point holds no context. -/
theorem TestPoint.searchInv_waiting (h : p.status = .idle ∨ p.status = .queued) :
    p.searchInv ↔ p.context = none ∧ ∀ params, p.content.kind = .search params → params.valid := by
  unfold TestPoint.searchInv
  cases kind : p.content.kind with
  | shot x a b => rcases h with h | h <;> simp [h]
  | search params =>
    cases hc : p.context with
    | none => simp [h]
    | some c => rcases h with h | h <;> simp [h]

/-- An ACTIVE or SUSPENDED search holds a context in bounds. -/
theorem TestPoint.searchInv_running {params : SearchParams} (kind : p.content.kind = .search params)
    (h : p.status = .active ∨ p.status = .suspended) :
    p.searchInv ↔ params.valid ∧ ∃ c, p.context = some c ∧ c.inBounds params := by
  unfold TestPoint.searchInv
  rw [kind]
  cases hc : p.context with
  | none => rcases h with h | h <;> simp [h]
  | some c => simp [h]

/-- A SHOT test point holds no context and is never SUSPENDED. -/
theorem TestPoint.searchInv_shot {x : Expectation} {a b : Nat} (kind : p.content.kind = .shot x a b) :
    p.searchInv ↔ p.context = none ∧ p.status ≠ .suspended := by
  unfold TestPoint.searchInv
  rw [kind]

/-- The parameters of a search are valid in every status (R8). -/
theorem TestPoint.searchInv.valid (h : p.searchInv) {params : SearchParams} (kind : p.content.kind = .search params) :
    params.valid := by
  unfold TestPoint.searchInv at h
  rw [kind] at h
  exact h.1

end

/-- After an abort the outputs are at rest, and nothing is pending where a shot was in play (R61). -/
theorem State.abortCore_rest (s : State) (h : Nat) (p : TestPoint) (reason : AbortReason) (t : Tick) :
    AtRest (s.abortCore h p reason t) ∧
      (s.run.state.isPlaying = false ∨ NothingPending (s.abortCore h p reason t)) := by
  unfold State.abortCore
  dsimp only
  split
  · exact ⟨State.applyPending_atRest (State.toRest_atRest _), .inr (State.applyPending_nothingPending _)⟩
  · rename_i still
    exact ⟨State.toRest_atRest _, .inl (by simpa using still)⟩

namespace Keeps
variable {s : State} {h : Nat} {p : TestPoint}

/-! ## The records of test points -/

/-- A result is posted on the ACTIVE test point, which leaves ACTIVE (R126). -/
theorem postActive (ha : s.activePoint = some (h, p)) {r : Result} (consistent : ResultInv s → r.inv)
    (revision : r.revision = none ∨ r.revision = s.shot.working.bind Working.revision?) :
    Keeps s (s.postActive h r) := by
  obtain ⟨named, present⟩ := (s.activePoint_eq_some h p).1 ha
  have here : (s.postActive h r).points.at? h = some (p.post r) := by
    rw [State.postActive_at?, if_pos rfl, present, Option.map_some]
  have others : ∀ k, k ≠ h → (s.postActive h r).points.at? k = s.points.at? k := fun k hk => by
    rw [State.postActive_at?, if_neg hk.symm]
  exact {
    refs := fun i => i.of_contents (Table.change_through _ _ fun _ => rfl) rfl rfl
    run := fun i => by
      refine i.update here others i.queue.room i.queue.distinct i.queue.markedFirst (fun _ _ => Iff.rfl) ?_ ?_ ?_
        (fun _ => rfl) ?_
      · refine (i.queue.waiting h).trans ⟨?_, ?_⟩
        · rintro ⟨q, hq, status⟩
          cases present.symm.trans hq
          simp [i.status_of_active ha] at status
        · rintro ⟨q, ⟨rfl⟩, status⟩
          simp [TestPoint.post] at status
      · intro k hk
        simp [named, hk.symm]
      · simp [TestPoint.post]
      · rintro q ⟨rfl⟩
        exact (TestPoint.searchInv_waiting (.inl rfl)).2 ⟨rfl, fun _ => (i.searches h p present).valid⟩
    result := fun i => i.update here others
      (fun q k hq hk => by
        cases hq
        exact TestPoint.post_result_inv (consistent i) (fun k hk => i.results h p k present hk) k hk)
      (fun w hw => nomatch hw)
    revision := fun _ _ i => i.update here others (fun _ _ => id)
      (fun q k v hq hk fresh hv => by
        cases hq
        cases hk
        rcases revision with none | working
        · simp [none] at hv
        · obtain ⟨w, hw, hv⟩ := Option.bind_eq_some_iff.1 (working.symm.trans hv)
          obtain ⟨j, q, hq, revisionOf⟩ := i.working w v hw hv
          cases ha.symm.trans hq
          exact revisionOf)
      (fun w v hw => nomatch hw) }

/-- The context of the ACTIVE search changes within its bounds (R133). -/
theorem changeContext (ha : s.activePoint = some (h, p)) {params : SearchParams} (kind : p.content.kind = .search params)
    {context : SearchContext} (bounds : RunInv s → context.inBounds params) :
    Keeps s (s.changePoint h fun q => { q with context := some context }) := by
  obtain ⟨named, present⟩ := (s.activePoint_eq_some h p).1 ha
  have here : (s.changePoint h fun q => { q with context := some context }).points.at? h =
      some { p with context := some context } := by simp [State.changePoint, Table.at?_change, present]
  have others : ∀ k, k ≠ h → (s.changePoint h fun q => { q with context := some context }).points.at? k =
      s.points.at? k := fun k hk => by simp [State.changePoint, Table.at?_change, hk.symm]
  exact {
    refs := fun i => i.of_contents (Table.change_through _ _ fun _ => rfl) rfl rfl
    run := fun i => i.update_record here others rfl (by simp [present]) fun q hq => by
      cases hq
      exact (TestPoint.searchInv_running (p := { p with context := some context }) kind
        (.inl (show p.status = .active from i.status_of_active ha))).2 ⟨(i.searches h p present).valid kind, context, rfl, bounds i⟩
    result := fun i => i.update here others
      (fun q k hq hk => by
        cases hq
        exact i.results h p k present hk) (fun _ => id)
    revision := fun _ _ i => i.update here others (fun _ _ => id)
      (fun q k v hq hk => by
        cases hq
        exact i.results h p k v present hk)
      (fun w v hw hv => by
        obtain ⟨j, q, hq, revisionOf⟩ := i.working w v hw hv
        cases ha.symm.trans hq
        exact ⟨h, _, (State.activePoint_eq_some _ _ _).2 ⟨named, here⟩, revisionOf⟩) }

/-! ## Aborting -/

/-- The effects of an abort before REST is entered (R61). -/
theorem abortCore (ha : s.activePoint = some (h, p)) (reason : AbortReason) (t : Tick) :
    Keeps s (s.abortCore h p reason t) := by
  have posted : Keeps s ((s.handNotes t).postActive h ((s.handNotes t).abortResult p reason t)).toRest :=
    ((handNotes s t).trans (postActive (s := s.handNotes t) ha (fun i => State.abortResult_inv i p reason t)
      (State.abortResult_revision _ p reason t))).trans (toRest _)
  unfold State.abortCore
  dsimp only
  split
  · exact posted.trans (applyPending (State.toRest_atRest _))
  · exact posted

theorem enterRest (t : Tick) (fault : Option Tick) (rest : AtRest s)
    (pending : s.run.state.isPlaying = false ∨ NothingPending s) : Keeps s (s.enterRest t fault) :=
  setRun (fun e => nomatch e) (fun _ => .inr rest) fun _ => pending

theorem abortActive (s : State) (reason : AbortReason) (t : Tick) : Keeps s (s.abortActive reason t) := by
  rcases s.abortActive_cases reason t with ⟨-, h⟩ | ⟨h, p, ha, e⟩
  · rw [h]
    exact refl s
  · rw [e]
    obtain ⟨rest, pending⟩ := State.abortCore_rest s h p reason t
    refine (abortCore ha reason t).trans (enterRest t none rest ?_)
    rw [State.abortCore_active]
    exact pending

/-! ## Entering and ending states -/

theorem setStage {g : Stage} (play : RunState.stateInPlay (.playing { stage := g, fault := none }) = false →
    s.run.state.stateInPlay = false) : Keeps s (s.setStage g) := by
  unfold State.setStage
  split
  · exact setRun (fun e => nomatch e) (fun still => .inl (play still)) (fun e => nomatch e)
  · exact refl s

/-- Inception takes the working values of the ACTIVE test point's content (R35). -/
theorem inception (ha : s.activePoint = some (h, p)) (fault : StateContent) (t : Tick) :
    Keeps s (s.inception p.content fault t) where
  result i := ⟨i.results, fun _ _ hw he => State.formWorking_ordered hw he⟩
  revision _ _ i := ⟨i.results, fun _ _ hw hv => ⟨h, p, ha, State.formWorking_revision hw hv⟩⟩

theorem enterPosition (ha : s.activePoint = some (h, p)) (playing : s.run.state.isPlaying = true) (position : Nat)
    (t : Tick) : Keeps s (s.enterPosition p position t) := by
  obtain ⟨play, hr⟩ : ∃ play, s.run.state = .playing play := by
    cases hr : s.run.state with
    | playing play => exact ⟨play, rfl⟩
    | _ => simp [hr, RunState.isPlaying] at playing
  unfold State.enterPosition
  split
  · exact refl s
  · rename_i handle record listed
    have entered : Keeps s (((s.enterState handle (p.playedContent position record) t).noteEntry
        (p.playedContent position record) t).setStage (.inPlay position t)) := by
      have noted := shot (s := s) (r := (s.noteEntry (p.playedContent position record) t).shot) (.inl rfl)
      refine noted.trans ?_
      simp only [State.setStage, State.noteEntry_run, State.enterState_run, hr]
      exact { unit := fun i => i.enterState handle _ t rfl rfl
              run := RunInv.of_run rfl rfl rfl (fun e => nomatch e) }
    dsimp only
    split
    · refine entered.trans (inception (h := h) ?_ _ t)
      simpa [State.setStage, hr, State.activePoint_eq_some] using
        (s.activePoint_eq_some h p).1 ha
    · exact entered

/-- The search procedure at a shot end updates the context or posts the one result (R136 to R140). -/
theorem endSearchShot (ha : s.activePoint = some (h, p)) {params : SearchParams}
    (kind : p.content.kind = .search params) (t : Tick) : Keeps s (s.endSearchShot h p params t) := by
  obtain ⟨-, present⟩ := (s.activePoint_eq_some h p).1 ha
  unfold State.endSearchShot
  dsimp only
  split
  · rename_i context step
    refine changeContext ha kind fun i => ?_
    obtain ⟨valid, c, hc, bounds⟩ :=
      (TestPoint.searchInv_running kind (.inl (i.status_of_active ha))).1 (i.searches h p present)
    rw [hc] at step
    exact searchStep_inBounds valid bounds step
  · rename_i verdict context boundary step
    obtain ⟨aborted, pass⟩ := searchStep_finish step
    exact postActive ha (fun _ => searchResult_inv (by simp [aborted]) pass _ _ _) (.inl rfl)

theorem endShot (ha : s.activePoint = some (h, p)) (t : Tick) : Keeps s (s.endShot h p t) := by
  have judged : Keeps s (match p.content.kind with
      | .shot _ _ _ => (s.handNotes t).postActive h ((s.handNotes t).shotResult p.content t none)
      | .search params => (s.handNotes t).endSearchShot h p params t) := by
    refine (handNotes s t).trans ?_
    split
    · exact postActive (s := s.handNotes t) ha (fun i => State.shotResult_inv i.working _ _ _) (.inr rfl)
    · exact endSearchShot (s := s.handNotes t) ha (by assumption) t
  exact ((judged.trans (toRest _)).trans (applyPending (State.toRest_atRest _))).trans
    (enterRest t _ (State.applyPending_atRest (State.toRest_atRest _)) (.inr (State.applyPending_nothingPending _)))

theorem endState (ha : s.activePoint = some (h, p)) (playing : s.run.state.isPlaying = true) (position : Nat)
    (t : Tick) : Keeps s (s.endState h p position t) := by
  have noted := noteFaultEnd s p.content position t
  have run : (s.noteFaultEnd p.content position t).run = s.run := by unfold State.noteFaultEnd; split <;> rfl
  have points : (s.noteFaultEnd p.content position t).points = s.points := by
    unfold State.noteFaultEnd; split <;> rfl
  have ha' : (s.noteFaultEnd p.content position t).activePoint = some (h, p) := by
    rw [State.activePoint_eq_some] at ha ⊢
    rwa [run, points]
  have next : Keeps s
      (((s.noteFaultEnd p.content position t).handNotes t).enterPosition p (position + 1) t) :=
    (noted.trans (handNotes _ t)).trans (enterPosition (s := (s.noteFaultEnd p.content position t).handNotes t) ha'
      (by simpa [run] using playing) _ t)
  unfold State.endState
  dsimp only
  split
  · split
    · split
      · exact next
      · exact noted.trans (setStage fun e => nomatch e)
    · exact next
  · exact noted.trans (endShot ha' t)

/-! ## Precheck and the queue -/

theorem letStart (s : State) (c : PointContent) (t : Tick) (still : s.run.state.isPlaying = false) :
    Keeps s (s.letStart c t) := by
  unfold State.letStart
  split <;> exact setRun_still (fun e => nomatch e) still

/-- PRECHECK keeps the invariants once it is entered (R50). -/
theorem precheck_entered (s : State) (t : Tick) : Keeps (s.setRun .precheck) (s.precheck t) := by
  have busy : (s.setRun .precheck).run.state.isPlaying = false := rfl
  unfold State.precheck
  dsimp only
  split
  · exact refl _
  · split
    · exact abortActive _ _ t
    · split
      · exact abortActive _ _ t
      · split
        · exact letStart _ _ t busy
        · exact setRun_still (fun e => nomatch e) busy

theorem precheck (s : State) (t : Tick) (still : s.run.state.isPlaying = false) : Keeps s (s.precheck t) :=
  (setRun_still (r := .precheck) (fun e => nomatch e) still).trans (precheck_entered s t)

theorem judgeRelayReset (s : State) (t : Tick) : Keeps s (s.judgeRelayReset t) := by
  unfold State.judgeRelayReset
  split
  · rename_i waiting _
    split
    · split
      · exact abortActive s _ t
      · exact letStart s _ t (by rw [waiting]; rfl)
    · exact refl s
  · exact refl s

end Keeps

/-- A test point waiting in the queue is taken with its search's context in bounds (R47, R133). -/
theorem TestPoint.take_searchInv {p : TestPoint} (h : p.searchInv) (waiting : p.status = .queued ∨ p.status = .suspended) :
    p.take.searchInv := by
  cases kind : p.content.kind with
  | shot x a b => exact (TestPoint.searchInv_shot (p := p.take) kind).2 ⟨by simp [TestPoint.take, kind], fun e => nomatch e⟩
  | search params =>
    refine (TestPoint.searchInv_running (p := p.take) kind (.inl rfl)).2 ⟨h.valid kind, ?_⟩
    rcases waiting with queued | suspended
    · exact ⟨_, by simp [TestPoint.take, kind, queued], SearchParams.firstContext_inBounds (h.valid kind)⟩
    · obtain ⟨-, c, hc, bounds⟩ := (TestPoint.searchInv_running kind (.inr suspended)).1 h
      exact ⟨c, by simp [TestPoint.take, kind, suspended, hc], bounds⟩

namespace Keeps
variable {s : State} {h : Nat} {p : TestPoint}

/-- The head is taken where no test point is ACTIVE and the outputs are at rest (R48). -/
theorem takeHead (s : State) (t : Tick) (free : RunInv s → s.run.active = none)
    (still : s.run.state.isPlaying = false) : Keeps s (s.takeHead t) := by
  unfold State.takeHead
  split
  · exact refl s
  · rename_i e rest queue
    refine Keeps.trans ?_ (precheck_entered _ t)
    have units : UnitInv s → UnitInv (s.setRun .precheck) := (setRun_still (r := .precheck) (fun e => nomatch e) still).unit
    have others : ∀ k, k ≠ e.handle → (s.points.change e.handle TestPoint.take).at? k = s.points.at? k :=
      fun k hk => by simp [Table.at?_change, hk.symm]
    exact {
      unit := fun i => UnitInv.of_eq (s := s.setRun .precheck) rfl rfl rfl rfl rfl (units i)
      refs := fun i => i.of_contents (Table.change_through _ _ fun _ => rfl) rfl rfl
      run := fun i => by
        obtain ⟨q, hq, waiting⟩ := (i.queue.waiting e.handle).1 ⟨e, by simp [queue], rfl⟩
        have distinct := i.queue.distinct
        rw [queue, List.map_cons, List.nodup_cons] at distinct
        have absent : ¬ ∃ k ∈ rest, k.handle = e.handle := by simpa using distinct.1
        refine i.update (o := some q.take) (by simp [State.setRun, Table.at?_change, hq]) others ?_ distinct.2
          (markedFirst_sublist (by simp [queue]) i.queue.markedFirst) ?_ ?_ ?_ ?_ (fun e => nomatch e) ?_
        · have := i.queue.room
          rw [queue, List.length_cons] at this
          exact Nat.le_of_succ_le this
        · intro k hk
          simp [State.setRun, queue, hk.symm]
        · simpa [State.setRun, TestPoint.take] using absent
        · intro k hk
          simp [State.setRun, free i, hk.symm]
        · simp [State.setRun, TestPoint.take]
        · rintro q ⟨rfl⟩
          exact TestPoint.take_searchInv (i.searches _ _ hq) waiting
      result := fun i => by
        refine ⟨fun k p r hk hr => ?_, i.working⟩
        simp only [State.setRun, Table.at?_change] at hk
        split at hk
        · obtain ⟨q, hq, rfl⟩ := Option.map_eq_some_iff.1 hk
          exact i.results k q r hq hr
        · exact i.results k p r hk hr
      revision := fun i _ v => by
        refine ⟨fun k p r x hk hr fresh hx => ?_, fun w x hw hx => ?_⟩
        · simp only [State.setRun, Table.at?_change] at hk
          split at hk
          · obtain ⟨q, hq, rfl⟩ := Option.map_eq_some_iff.1 hk
            exact v.results k q r x hq hr fresh hx
          · exact v.results k p r x hk hr fresh hx
        · exact (v.no_working (by simp [State.activePoint, free i]) hw hx).elim }

theorem enterIdle (s : State) (t : Tick) (free : RunInv s → s.run.active = none)
    (still : s.run.state.isPlaying = false) : Keeps s (s.enterIdle t) := by
  have idle := setIdle free still
  rcases s.enterIdle_cases t with ⟨-, e⟩ | ⟨-, -, e⟩ | ⟨-, -, e⟩ <;> rw [e]
  · exact idle.trans (raiseQueueEmpty _)
  · exact idle
  · exact idle.trans (takeHead _ t (fun i => i.queue.idle rfl) rfl)

theorem takeIfIdle (s : State) (t : Tick) : Keeps s (s.takeIfIdle t) := by
  unfold State.takeIfIdle
  split
  · rename_i free
    exact takeHead s t (fun i => i.queue.idle free.1) (by rw [free.1]; rfl)
  · exact refl s

/-- The ACTIVE search is suspended into a queue that has room (R45, R142). -/
theorem suspendSearch (ha : s.activePoint = some (h, p)) {params : SearchParams}
    (kind : p.content.kind = .search params) (room : s.run.queue.length < Config.queueEntries) :
    Keeps s (s.suspendSearch h) := by
  obtain ⟨named, present⟩ := (s.activePoint_eq_some h p).1 ha
  have here : (s.suspendSearch h).points.at? h = some { p with status := .suspended } := by
    simp [State.suspendSearch, Table.at?_change, present]
  have others : ∀ k, k ≠ h → (s.suspendSearch h).points.at? k = s.points.at? k := fun k hk => by
    simp [State.suspendSearch, Table.at?_change, hk.symm]
  have perm := insertAfterMarked_perm s.run.queue { handle := h, marked := false }
  exact {
    refs := fun i => i.of_contents (Table.change_through _ _ fun _ => rfl) rfl rfl
    run := fun i => by
      have absent : h ∉ s.run.queue.map fun e => e.handle := fun hm => by
        obtain ⟨e, he, handle⟩ := List.mem_map.1 hm
        obtain ⟨q, hq, status⟩ := (i.queue.waiting h).1 ⟨e, he, handle⟩
        cases present.symm.trans hq
        simp [i.status_of_active ha] at status
      refine i.update here others ?_ ?_ (markedFirst_insertAfterMarked i.queue.markedFirst _) ?_ ?_ ?_ ?_
        (fun _ => rfl) ?_
      · show (insertAfterMarked _ _).length ≤ _
        rw [perm.length_eq]
        exact room
      · show ((insertAfterMarked _ _).map _).Nodup
        rw [(perm.map _).nodup_iff]
        exact List.nodup_cons.2 ⟨absent, i.queue.distinct⟩
      · intro k hk
        simp [State.suspendSearch, perm.mem_iff, hk.symm]
      · simp [State.suspendSearch, perm.mem_iff]
      · intro k hk
        simp [State.suspendSearch, named, hk.symm]
      · simp [State.suspendSearch]
      · rintro q ⟨rfl⟩
        exact (TestPoint.searchInv_running (p := { p with status := .suspended }) kind (.inr rfl)).2
          ((TestPoint.searchInv_running kind (.inl (i.status_of_active ha))).1 (i.searches h p present))
    result := fun i => i.update here others
      (fun q k hq hk => by
        cases hq
        exact i.results h p k present hk) (fun _ => id)
    revision := fun _ _ i => i.update here others (fun _ _ => id)
      (fun q k v hq hk => by
        cases hq
        exact i.results h p k v present hk)
      (fun w v hw hv => by
        obtain ⟨j, q, hq, revisionOf⟩ := i.working w v hw hv
        cases ha.symm.trans hq
        simp [State.revisionOf, PointContent.curve?, kind] at revisionOf) }

/-- The decision at the end of REST (R59, R142). -/
theorem decideSearch (ha : s.activePoint = some (h, p)) (t : Tick) (still : s.run.state.isPlaying = false) :
    Keeps s (s.decideSearch h p t) := by
  unfold State.decideSearch
  split
  · split
    · rename_i params kind
      split
      · split
        · rename_i room
          exact (suspendSearch ha kind room).trans (enterIdle _ t (fun _ => rfl) still)
        · exact precheck s t still
      · exact (postActive ha (fun _ => searchAbort_inv _ _) (.inl rfl)).trans (enterIdle _ t (fun _ => rfl) still)
    · exact precheck s t still
  · exact precheck s t still

theorem endRest (s : State) (since : Tick) (interval : Nat) (fault : Option Tick) (t : Tick)
    (still : s.run.state.isPlaying = false) : Keeps s (s.endRest since interval fault t) := by
  unfold State.endRest
  split
  · rename_i none
    exact enterIdle s t (fun i => i.active_none none) still
  · rename_i h p ha
    split
    · exact setRun_still (fun e => nomatch e) still
    · exact decideSearch ha t still

theorem released (s : State) : Keeps s s.released := by
  unfold State.released
  split
  · rename_i idle
    exact takeHead s _ (fun i => i.queue.idle idle) (by rw [idle]; rfl)
  · rename_i resting
    split
    · rename_i h p ha
      exact decideSearch ha _ (by rw [resting]; rfl)
    · exact refl s
  · exact refl s

/-- A test point joins the queue where a placement keeps the marked entries first (R42, R43). -/
theorem enqueue (s : State) (h : Nat) {queue : List QueueEntry} {e : QueueEntry} (position : Nat)
    (perm : queue.Perm (e :: s.run.queue)) (handle : e.handle = h)
    (markedFirst : RunInv s → queue = (queue.filter fun e => e.marked) ++ queue.filter fun e => !e.marked) :
    Keeps s (s.enqueue h queue position) := by
  rcases s.enqueue_cases h queue position with ⟨code, e⟩ | ⟨p, -, -, present, idle, room, e⟩ <;> rw [e]
  · exact refuse s code
  · refine Keeps.trans ?_ ((takeIfIdle _ _).trans (accept _ _))
    have here : (s.points.change h fun p => { p with status := .queued }).at? h =
        some { p with status := .queued } := by simp [Table.at?_change, present]
    have others : ∀ k, k ≠ h → (s.points.change h fun p => { p with status := .queued }).at? k = s.points.at? k :=
      fun k hk => by simp [Table.at?_change, hk.symm]
    exact {
      refs := fun i => i.of_contents (Table.change_through _ _ fun _ => rfl) rfl rfl
      run := fun i => by
        have absent : h ∉ s.run.queue.map fun e => e.handle := fun hm => by
          obtain ⟨e, he, handle⟩ := List.mem_map.1 hm
          obtain ⟨q, hq, status⟩ := (i.queue.waiting h).1 ⟨e, he, handle⟩
          cases present.symm.trans hq
          simp [idle] at status
        have inactive : s.run.active ≠ some h := fun named => by
          obtain ⟨q, hq, status⟩ := (i.queue.active h).1 named
          cases present.symm.trans hq
          simp [idle] at status
        refine i.update here others ?_ ?_ (markedFirst i) ?_ ?_ (fun _ _ => Iff.rfl) ?_ i.queue.idle ?_
        · show queue.length ≤ _
          rw [perm.length_eq]
          exact room
        · show (queue.map _).Nodup
          rw [(perm.map _).nodup_iff]
          exact List.nodup_cons.2 ⟨by simpa only [handle] using absent, i.queue.distinct⟩
        · intro k hk
          simp [perm.mem_iff, handle, hk.symm]
        · simp [perm.mem_iff, handle]
        · simpa using inactive
        · rintro q ⟨rfl⟩
          exact (TestPoint.searchInv_waiting (.inr rfl)).2
            ((TestPoint.searchInv_waiting (.inl idle)).1 (i.searches h p present))
      result := fun i => i.update here others
        (fun q k hq hk => by
          cases hq
          exact i.results h p k present hk) (fun _ => id)
      revision := fun r _ i => i.update here others (fun _ _ => id)
        (fun q k v hq hk => by
          cases hq
          exact i.results h p k v present hk)
        (fun w v hw hv => by
          obtain ⟨j, q, hq, revisionOf⟩ := i.working w v hw hv
          refine ⟨j, q, ?_, revisionOf⟩
          have status := r.status_of_active hq
          rw [State.activePoint_eq_some] at hq ⊢
          refine ⟨hq.1, (others j fun e => ?_).trans hq.2⟩
          cases present.symm.trans (e ▸ hq.2)
          simp [idle] at status) }

end Keeps

end Sys2Proof.Machine

/-! Samples and the Timebase: each operation keeps every invariant (R85 to R109, R147 to R160). -/

namespace Sys2Proof.Machine

namespace Keeps
variable {s : State}

/-- A fold of operations that each keep the invariants. -/
theorem foldl {α : Type} {f : State → α → State} (h : ∀ s a, Keeps s (f s a)) (l : List α) (s : State) :
    Keeps s (l.foldl f s) := by
  induction l generalizing s with
  | nil => exact refl s
  | cons a l ih => exact (h s a).trans (ih _)

/-! ## Input samples -/

theorem updateCriterion (s : State) (n : Inp) (t : Tick) (before : TableEntry) :
    Keeps s (s.updateCriterion n t before) := by
  unfold State.updateCriterion
  split
  · split
    · exact shot (.inl rfl)
    · exact refl s
  · exact refl s

theorem takeSample (s : State) (t : Tick) (n : Inp) (level : Bool) : Keeps s (s.takeSample t n level) := by
  unfold State.takeSample
  dsimp only
  split
  · exact refl s
  · refine Keeps.trans (inputs fun m h => ?_) (updateCriterion _ _ _ _)
    rw [PerInput.get_update]
    split
    · exact h.sample t level _
    · exact h

theorem reportReleases (before after : State) (t : Tick) : Keeps after (State.reportReleases before after t) := by
  unfold State.reportReleases
  split
  · split
    · exact judgeRelayReset after t
    · exact refl after
  · exact refl after

theorem sampleOne (s : State) (t : Tick) (n : Inp) (level : Bool) : Keeps s (s.sampleOne t n level) :=
  (takeSample s t n level).trans (reportReleases _ _ t)

theorem sampleAll (s : State) (t : Tick) (closed : BitVec 10) (volts : PerInput (BitVec 9)) :
    Keeps s (s.sampleAll t closed volts) :=
  (foldl (fun s n => takeSample s t n _) Inp.all s).trans (reportReleases _ _ t)

/-! ## Feedback samples and fault lines -/

theorem feedChannel (s : State) (t : Tick) (c : Chan) (feedback : BitVec 16) :
    Keeps s (s.feedChannel t c feedback) := by
  have fed : Keeps s { s with channels := s.channels.update c (fun _ =>
      (s.channels.get c).feed (s.gen.synths.get c) t feedback) } :=
    channel c (fun h => (h.channels c).feed _ _ _) fun _ none => by
      rw [Channel.feed_of_no_window none]
      exact ⟨none, rfl, rfl⟩
  unfold State.feedChannel
  dsimp only
  split
  · exact fed
  · exact fed.trans { link := id }

theorem feedAll (s : State) (t : Tick) (feedback : PerChannel (BitVec 16)) : Keeps s (s.feedAll t feedback) :=
  foldl (fun s c => feedChannel s t c _) Chan.all s

/-- A reported fault changes no stage (R63). -/
theorem reportFault (s : State) (t : Tick) :
    Keeps s { s with run := { s.run with state := s.run.state.reportFault t } } := by
  unfold RunState.reportFault
  split
  · rename_i play hr
    exact setRun (s := s) (fun e => nomatch e) (fun still => .inl (by rw [hr]; exact still)) (fun e => nomatch e)
  · exact refl s

end Keeps

/-! ## Ticks in a window -/

/-- A tick in the window of half-width W about a centre some ticks after another is as far from that other, to within
W (R149). -/
theorem elapsed_of_inWindow {window centre : Nat} {r t : Tick} (narrow : window ≤ centre)
    (small : centre + window < 2 ^ 48) (h : inWindow window (r + BitVec.ofNat 48 centre) t = true) :
    centre - window ≤ Tick.elapsed r t ∧ Tick.elapsed r t ≤ centre + window := by
  simp only [inWindow, Tick.elapsed, decide_eq_true_eq, BitVec.toNat_sub, BitVec.toNat_add, BitVec.toNat_ofNat] at h ⊢
  have := r.isLt
  have := t.isLt
  omega

/-! ## Field values -/

theorem valueOf_append (x y : List Byte) : valueOf (x ++ y) = valueOf x * 256 ^ y.length + valueOf y := by
  have fold : ∀ (l : List Byte) (v : Nat), l.foldl (fun v b => v * 256 + b.toNat) v = v * 256 ^ l.length + valueOf l := by
    intro l
    induction l with
    | nil => simp [valueOf]
    | cons b l ih =>
      intro v
      rw [valueOf, List.foldl_cons, List.foldl_cons, ih, ih (0 * 256 + b.toNat), List.length_cons]
      ring
  rw [valueOf, List.foldl_append, fold]
  rfl

/-- The value of bytes fits their number. -/
theorem valueOf_lt (bytes : List Byte) : valueOf bytes < 256 ^ bytes.length := by
  induction bytes with
  | nil => decide
  | cons b bytes ih =>
    rw [← List.singleton_append, valueOf_append, List.length_append, pow_add]
    have : valueOf [b] + 1 ≤ 256 ^ [b].length := by
      have := b.isLt
      simpa [valueOf] using this
    calc valueOf [b] * 256 ^ bytes.length + valueOf bytes
        < (valueOf [b] + 1) * 256 ^ bytes.length := by rw [Nat.succ_mul]; omega
      _ ≤ 256 ^ [b].length * 256 ^ bytes.length := Nat.mul_le_mul_right _ this

/-- A field fits its width. -/
theorem fieldAt_lt (payload : List Byte) (offset width : Nat) : fieldAt payload offset width < 256 ^ width :=
  (valueOf_lt _).trans_le (Nat.pow_le_pow_right (by decide) (by simp))

/-! ## The Timebase -/

theorem Label.next_eq_later (l : Label) : l.next = l.later := by
  unfold Label.next Label.later
  split <;> rfl

theorem Label.next_valid {l : Label} (h : l.valid) : l.next.valid := by
  obtain ⟨day, second⟩ := h
  unfold Label.next
  split
  · exact ⟨by simp only; omega, by simp⟩
  · exact ⟨day, by simp only; omega⟩

theorem Timebase.stepsLabel_eq (b : Timebase) : b.stepsLabel = b.stepsAhead := by
  unfold Timebase.stepsLabel Timebase.stepsAhead
  cases b.held with
  | none => rfl
  | some m =>
    cases b.label with
    | none => rfl
    | some l => simp only [Label.next_eq_later, ne_eq, Prod.mk.injEq, not_and_or]

/-- A second edge is the one R148 and R153 describe. -/
theorem Timebase.secondEdge_eq (b : Timebase) (kind : EdgeKind) (edge : Tick) (restart : Bool) :
    b.secondEdge kind edge restart = b.atEdge kind edge restart := by
  have later : Label.next = Label.later := funext Label.next_eq_later
  unfold Timebase.secondEdge Timebase.atEdge Timebase.moveLabel
  rw [b.stepsLabel_eq]
  cases held : b.held <;> simp [later]

/-- A joined interval keeps the history at four and in range (R152). -/
theorem joinHistory_spec {history : List Nat} {interval : Nat} (most : history.length ≤ 4)
    (range : ∀ i ∈ history, 999000 ≤ i ∧ i ≤ 1001000) (h : 999000 ≤ interval ∧ interval ≤ 1001000) :
    (joinHistory history interval).length = min 4 (history.length + 1) ∧
      ∀ i ∈ joinHistory history interval, 999000 ≤ i ∧ i ≤ 1001000 := by
  unfold joinHistory
  split
  · refine ⟨by simp; omega, fun i hi => ?_⟩
    rcases List.mem_append.1 hi with hi | hi
    · exact range i hi
    · exact List.mem_singleton.1 hi ▸ h
  · refine ⟨by simp; omega, fun i hi => ?_⟩
    rcases List.mem_append.1 hi with hi | hi
    · exact range i (List.mem_of_mem_tail hi)
    · exact List.mem_singleton.1 hi ▸ h

section
variable {s : State}

/-- The window half-width a TIME_SET admits (R156). -/
theorem TimeInv.window (i : TimeInv s) : s.time.window ≤ 1000 := by
  have := i.setup
  simp only [timeSetInRange, Bool.and_eq_true, decide_eq_true_eq] at this
  exact this.1.1.1.2

theorem TimeInv.missedLimit_pos (i : TimeInv s) : 0 < s.time.missedLimit := by
  have := i.setup
  simp only [timeSetInRange, Bool.and_eq_true, Bool.or_eq_true, decide_eq_true_eq] at this
  omega

/-- What a second edge leaves in range, whatever lock state, history and counts come with it. -/
theorem TimeInv.atEdge (i : TimeInv s) (kind : EdgeKind) (edge : Tick) (restart : Bool) {lock : Lock}
    {acquisition missed : Nat} {history : List Nat} {holdoverEntry : Option Tick}
    (holds : ({ s.time.atEdge kind edge restart with
      lock := lock, acquisition := acquisition, history := history, missed := missed
      holdoverEntry := holdoverEntry } : Timebase).lockInv)
    (length : history.length ≤ 4) (intervals : ∀ k ∈ history, 999000 ≤ k ∧ k ≤ 1001000) :
    TimeInv { s with time := { s.time.atEdge kind edge restart with
      lock := lock, acquisition := acquisition, history := history, missed := missed
      holdoverEntry := holdoverEntry } } where
  setup := i.setup
  lock := holds
  history := length
  intervals := intervals
  label l hl := by
    simp only [Timebase.atEdge] at hl
    split at hl
    · cases hl
      exact i.held _ (by assumption)
    · split at hl
      · cases hl
      · obtain ⟨k, hk, rfl⟩ := Option.map_eq_some_iff.1 hl
        exact k.next_eq_later ▸ Label.next_valid (i.label k hk)
  held l hl := nomatch hl
  counts := i.counts

theorem TimeInv.toFree (i : TimeInv s) : TimeInv { s with time := s.time.toFree } where
  setup := i.setup
  lock := ⟨rfl, rfl, rfl, rfl⟩
  history := Nat.zero_le _
  intervals := fun _ hk => nomatch hk
  label _ hl := nomatch hl
  held := i.held
  counts := i.counts

theorem TimeInv.loseHoldover (i : TimeInv s) : TimeInv { s with time := s.time.loseHoldover } :=
  { i.toFree with lock := ⟨rfl, rfl, rfl, rfl⟩ }

/-- What each lock state holds, read back where the state is known. -/
theorem TimeInv.acquiring (i : TimeInv s) (lock : s.time.lock = .acquiring) :
    s.time.reference.isSome ∧ 1 ≤ s.time.acquisition ∧ s.time.acquisition ≤ 3 ∧
      s.time.acquisition - 1 ≤ s.time.history.length := by
  have := i.lock
  unfold Timebase.lockInv at this
  rwa [lock] at this

theorem TimeInv.locked (i : TimeInv s) (lock : s.time.lock = .locked) :
    s.time.reference.isSome ∧ 3 ≤ s.time.history.length ∧ s.time.missed < s.time.missedLimit := by
  have := i.lock
  unfold Timebase.lockInv at this
  rwa [lock] at this

theorem TimeInv.holdover (i : TimeInv s) (lock : s.time.lock = .holdover) :
    s.time.reference.isSome ∧ 3 ≤ s.time.history.length ∧ s.time.holdoverEntry.isSome := by
  have := i.lock
  unfold Timebase.lockInv at this
  rwa [lock] at this

/-- A restart pulse begins a new acquisition, whatever the history (R149, R151). -/
theorem TimeInv.pulseRestart (i : TimeInv s) (t : Tick) : TimeInv { s with time := s.time.pulseRestart t } := by
  rw [Timebase.pulseRestart, Timebase.secondEdge_eq]
  exact i.atEdge .pulse t true (missed := s.time.missed) ⟨rfl, Nat.le_refl 1, Nat.le_add_left 1 2, Nat.zero_le _⟩ i.history i.intervals

theorem TimeInv.pulseFree (i : TimeInv s) (t : Tick) : TimeInv { s with time := s.time.pulseFree t } := by
  rw [Timebase.pulseFree, Timebase.secondEdge_eq]
  exact i.atEdge .pulse t false (missed := s.time.missed) (holdoverEntry := s.time.holdoverEntry)
    ⟨rfl, Nat.le_refl 1, Nat.le_add_left 1 2, Nat.zero_le _⟩ i.history i.intervals

/-- A pulse in the ACQUIRING window adds its interval; the fourth locks (R149). -/
theorem TimeInv.pulseAcquired (i : TimeInv s) (lock : s.time.lock = .acquiring) {r t : Tick}
    (inside : inWindow s.time.window (r + BitVec.ofNat 48 Config.nominalSecond) t = true) :
    TimeInv { s with time := s.time.pulseAcquired r t } := by
  have window := i.window
  obtain ⟨low, high⟩ := elapsed_of_inWindow (by simp only [Config.nominalSecond]; omega)
    (by simp only [Config.nominalSecond]; omega) inside
  simp only [Config.nominalSecond] at low high
  obtain ⟨length, intervals⟩ := joinHistory_spec i.history i.intervals
    (interval := Tick.elapsed r t) ⟨by omega, by omega⟩
  have most := i.history
  obtain ⟨-, first, third, enough⟩ := i.acquiring lock
  rw [Timebase.pulseAcquired, Timebase.secondEdge_eq]
  dsimp only
  split
  · exact i.atEdge .pulse t false (holdoverEntry := s.time.holdoverEntry)
      ⟨rfl, by simp only; omega, i.missedLimit_pos⟩ (by omega) intervals
  · exact i.atEdge .pulse t false (lock := s.time.lock) (missed := s.time.missed)
      (holdoverEntry := s.time.holdoverEntry)
      (by unfold Timebase.lockInv; rw [lock]; exact ⟨rfl, by simp only; omega, by simp only; omega, by simp only; omega⟩)
      (by omega) intervals

theorem TimeInv.pulseAccepted (i : TimeInv s) (lock : s.time.lock = .locked) (r t : Tick) :
    TimeInv { s with time := s.time.pulseAccepted r t } := by
  have window := i.window
  have most := i.history
  obtain ⟨-, enough, -⟩ := i.locked lock
  rw [Timebase.pulseAccepted, Timebase.secondEdge_eq]
  split
  · rename_i joins
    simp only [Config.nominalSecond, Bool.and_eq_true] at joins
    have low := of_decide_eq_true joins.1.2
    have high := of_decide_eq_true joins.2
    obtain ⟨length, intervals⟩ := joinHistory_spec i.history i.intervals
      (interval := Tick.elapsed r t) ⟨by omega, by omega⟩
    exact i.atEdge .pulse t false (lock := s.time.lock) (acquisition := s.time.acquisition)
      (holdoverEntry := s.time.holdoverEntry)
      (by unfold Timebase.lockInv; rw [lock]; exact ⟨rfl, by simp only; omega, i.missedLimit_pos⟩) (by omega) intervals
  · exact i.atEdge .pulse t false (lock := s.time.lock) (acquisition := s.time.acquisition)
      (holdoverEntry := s.time.holdoverEntry)
      (by unfold Timebase.lockInv; rw [lock]; exact ⟨rfl, enough, i.missedLimit_pos⟩) most i.intervals

theorem TimeInv.spurious (i : TimeInv s) :
    TimeInv { s with time := { s.time with spurious := saturate 65535 (s.time.spurious + 1) } } :=
  { i with counts := ⟨Nat.min_le_right _ _, i.counts.2⟩, lock := i.lock }

theorem TimeInv.pulseRegained (i : TimeInv s) (lock : s.time.lock = .holdover) (t : Tick) :
    TimeInv { s with time := s.time.pulseRegained t } := by
  obtain ⟨-, enough, -⟩ := i.holdover lock
  rw [Timebase.pulseRegained, Timebase.secondEdge_eq]
  exact i.atEdge .pulse t false (acquisition := s.time.acquisition) (history := s.time.history)
    ⟨rfl, enough, i.missedLimit_pos⟩ i.history i.intervals

theorem TimeInv.pulseAfterPredicted (i : TimeInv s) (lock : s.time.lock = .holdover) (t : Tick) :
    TimeInv { s with time := s.time.pulseAfterPredicted t } := by
  obtain ⟨-, enough, -⟩ := i.holdover lock
  exact { i with lock := ⟨rfl, enough, i.missedLimit_pos⟩ }

/-- A missed edge counts towards the missed limit, which brings HOLDOVER (R150). -/
theorem TimeInv.missEdge (i : TimeInv s) (lock : s.time.lock = .locked) (edge t : Tick) :
    TimeInv { s with time := s.time.missEdge edge t } := by
  obtain ⟨-, enough, below⟩ := i.locked lock
  rw [Timebase.missEdge, Timebase.secondEdge_eq]
  dsimp only
  split
  · exact i.atEdge .missed edge false (acquisition := s.time.acquisition) (history := s.time.history)
      ⟨rfl, enough, rfl⟩ i.history i.intervals
  · exact i.atEdge .missed edge false (lock := s.time.lock) (acquisition := s.time.acquisition)
      (history := s.time.history) (holdoverEntry := s.time.holdoverEntry)
      (by unfold Timebase.lockInv; rw [lock]; exact ⟨rfl, enough, by simp only [Timebase.atEdge]; omega⟩)
      i.history i.intervals

theorem TimeInv.predictEdge (i : TimeInv s) (lock : s.time.lock = .holdover) (edge : Tick) :
    TimeInv { s with time := s.time.secondEdge .predicted edge false } := by
  obtain ⟨-, enough, entry⟩ := i.holdover lock
  rw [Timebase.secondEdge_eq]
  exact i.atEdge .predicted edge false (lock := s.time.lock) (acquisition := s.time.acquisition)
    (history := s.time.history) (missed := s.time.missed) (holdoverEntry := s.time.holdoverEntry)
    (by unfold Timebase.lockInv; rw [lock]; exact ⟨rfl, enough, entry⟩) i.history i.intervals

/-- New limits in range keep what the lock state holds once they are judged (R156). -/
theorem TimeInv.configure (i : TimeInv s) {window missedLimit holdoverLimit : Nat} (t : Tick)
    (range : timeSetInRange window missedLimit holdoverLimit = true) :
    TimeInv { s with time := (s.time.configure window missedLimit holdoverLimit t).judgeLimits t } := by
  have held := i.lock
  unfold Timebase.lockInv at held
  unfold Timebase.judgeLimits
  cases lock : s.time.lock <;> rw [lock] at held <;> simp only [Timebase.configure, lock]
  case free => exact { i with setup := range, lock := by unfold Timebase.lockInv; simpa only [lock] using held }
  case acquiring => exact { i with setup := range, lock := by unfold Timebase.lockInv; simpa only [lock] using held }
  case locked =>
    obtain ⟨reference, enough, -⟩ := held
    split
    · exact { i with setup := range, lock := ⟨reference, enough, rfl⟩ }
    · rename_i below
      exact { i with setup := range, lock := ⟨reference, enough, Nat.not_le.1 below⟩ }
  case holdover =>
    have kept : TimeInv { s with time := s.time.configure window missedLimit holdoverLimit t } :=
      { i with setup := range, lock := by unfold Timebase.lockInv; simpa only [Timebase.configure, lock] using held }
    split
    · have := kept.loseHoldover
      simpa only [Timebase.configure, lock] using this
    · simpa only [Timebase.configure, lock] using kept

end

/-! ## Time messages -/

theorem labelOf_valid {content : List Byte} {l : Label} (h : labelOf content = some l) : l.valid := by
  unfold labelOf at h
  dsimp only at h
  split at h
  · rename_i good
    cases h
    exact ⟨Nat.le_of_lt_succ (fieldAt_lt content 0 2), good.2.2⟩
  · cases h

/-- The receiver changes the discards, the held message and its own state alone, and keeps them in range (R154, R155). -/
structure Timebase.Receives (b c : Timebase) : Prop where
  frame : c = { b with discards := c.discards, held := c.held, receiver := c.receiver }
  discards : b.discards ≤ 65535 → c.discards ≤ 65535
  held : (∀ l, b.held = some l → l.valid) → ∀ l, c.held = some l → l.valid

namespace Timebase.Receives
variable {b c d : Timebase}

theorem refl (b : Timebase) : b.Receives b := ⟨rfl, id, id⟩

theorem trans (h : b.Receives c) (k : c.Receives d) : b.Receives d where
  frame := by rw [k.frame, h.frame]
  discards := k.discards ∘ h.discards
  held := k.held ∘ h.held

theorem discard (b : Timebase) : b.Receives b.discard := ⟨rfl, fun _ => Nat.min_le_right _ _, id⟩

theorem receiver (b : Timebase) (r : Receiver) : b.Receives { b with receiver := r } := ⟨rfl, id, id⟩

theorem hold (b : Timebase) {l : Label} (valid : l.valid) : b.Receives { b with held := some l } :=
  ⟨rfl, id, fun _ _ h => by cases h; exact valid⟩

theorem endMessage (b : Timebase) (content : List Byte) : b.Receives (b.endMessage content) := by
  unfold Timebase.endMessage
  split
  · exact refl b
  · split
    · exact discard b
    · rename_i l hl
      split
      · exact hold b (labelOf_valid hl)
      · exact (discard b).trans (hold _ (labelOf_valid hl))

theorem receive (b : Timebase) (a : Assembly) (cs : List Byte) : b.Receives (b.receive a cs) := by
  induction cs generalizing a b with
  | nil => exact refl b
  | cons c cs ih =>
    unfold Timebase.receive
    split
    · refine Receives.trans ?_ ((receiver _ .message).trans (ih _ _))
      split
      · split
        · exact discard b
        · exact endMessage b _
      · exact refl b
    · split
      · exact ih b a
      · split
        · exact (discard b).trans ((receiver _ .ignoring).trans (ih _ _))
        · split
          · exact ih b _
          · split <;> exact ih b _

theorem abandonMessage (b : Timebase) : b.Receives b.abandonMessage := by
  unfold Timebase.abandonMessage
  split
  · exact (discard b).trans (receiver _ .ignoring)
  · exact refl b

end Timebase.Receives

theorem TimeInv.receives {s : State} (i : TimeInv s) {b : Timebase} (h : s.time.Receives b) :
    TimeInv { s with time := b } := by
  obtain ⟨frame, discards, held⟩ := h
  have spurious : b.spurious = s.time.spurious := by rw [frame]
  refine ⟨?_, ?_, ?_, ?_, ?_, held i.held, spurious ▸ i.counts.1, discards i.counts.2⟩ <;> rw [frame]
  · exact i.setup
  · exact i.lock
  · exact i.history
  · exact i.intervals
  · exact i.label

namespace Keeps
variable {s : State}

/-! ## The Timebase put in force -/

theorem ofTime {b : Timebase} (h : TimeInv s → TimeInv { s with time := b }) : Keeps s { s with time := b } where
  time := h

theorem reportToWait (s : State) (changed : Bool) (edge : Option EdgeReport) (t : Tick) :
    Keeps s (s.reportToWait changed edge t) := by
  unfold State.reportToWait
  split
  · rename_i waiting _
    have rewait : ∀ w, Keeps s (s.setRun (.startWait w)) := fun w =>
      setRun_still (fun e => nomatch e) (by rw [waiting]; rfl)
    split
    · exact refl s
    · split
      · exact rewait _
      · split
        · exact refl s
        · exact rewait _
  · exact refl s

theorem setTimebase {b : Timebase} (h : TimeInv s → TimeInv { s with time := b }) (stepped : Bool)
    (edge : Option EdgeReport) (t : Tick) : Keeps s (s.setTimebase b stepped edge t) := by
  unfold State.setTimebase
  dsimp only
  refine Keeps.trans ?_ (reportToWait _ _ _ _)
  split
  · exact (ofTime h).trans (raiseTime _)
  · exact ofTime h

/-- A pulse through the lock machine (R149 to R151). -/
theorem pulse (s : State) (t : Tick) : Keeps s (s.pulse t) := by
  have edge : ∀ {b : Timebase}, (TimeInv s → TimeInv { s with time := b }) → s.time.takePulse t = .edge b →
      Keeps s (s.pulse t) := by
    intro b h e
    unfold State.pulse
    rw [e]
    exact setTimebase h _ _ t
  have quiet : ∀ {b : Timebase}, (TimeInv s → TimeInv { s with time := b }) → s.time.takePulse t = .quiet b →
      Keeps s (s.pulse t) := by
    intro b h e
    unfold State.pulse
    rw [e]
    exact setTimebase h _ _ t
  cases lock : s.time.lock with
  | free => exact edge (fun i => i.pulseFree t) (by simp only [Timebase.takePulse, lock])
  | acquiring =>
    cases reference : s.time.reference with
    | none => exact edge (fun i => i.pulseRestart t) (by simp only [Timebase.takePulse, lock, reference])
    | some r =>
      by_cases inside : inWindow s.time.window (r + BitVec.ofNat 48 Config.nominalSecond) t = true
      · exact edge (fun i => i.pulseAcquired lock inside)
          (by simp only [Timebase.takePulse, lock, reference, inside, if_true])
      · exact edge (fun i => i.pulseRestart t) (by simp only [Timebase.takePulse, lock, reference, inside]; rfl)
  | locked =>
    cases reference : s.time.reference with
    | none => exact quiet (fun i => i.spurious) (by simp only [Timebase.takePulse, lock, reference])
    | some r =>
      by_cases inside : inWindow s.time.window (s.time.expectedEdge r) t = true
      · exact edge (fun i => i.pulseAccepted lock r t)
          (by simp only [Timebase.takePulse, lock, reference, inside, if_true])
      · exact quiet (fun i => i.spurious) (by simp only [Timebase.takePulse, lock, reference, inside]; rfl)
  | holdover =>
    cases reference : s.time.reference with
    | none => exact edge (fun i => i.pulseRestart t) (by simp only [Timebase.takePulse, lock, reference])
    | some r =>
      by_cases inside : inWindow s.time.window (s.time.expectedEdge r) t = true
      · exact edge (fun i => i.pulseRegained lock t)
          (by simp only [Timebase.takePulse, lock, reference, inside, if_true])
      · by_cases after : s.time.afterPredicted r t = true
        · exact quiet (fun i => i.pulseAfterPredicted lock t)
            (by simp only [Timebase.takePulse, lock, reference, inside, after, if_true]; rfl)
        · exact edge (fun i => i.pulseRestart t)
            (by simp only [Timebase.takePulse, lock, reference, inside, after]; rfl)

/-- The expected edge becomes a missed edge (R150). -/
theorem missEdge (s : State) (t : Tick) : Keeps s (s.missEdge t) := by
  unfold State.missEdge
  split
  · rename_i e missed
    refine setTimebase (fun i => i.missEdge ?_ e t) _ _ t
    unfold Timebase.missedAt at missed
    split at missed
    · assumption
    · cases missed
  · exact refl s

/-- The predicted edge is established (R151). -/
theorem predictEdge (s : State) (t : Tick) : Keeps s (s.predictEdge t) := by
  unfold State.predictEdge
  split
  · rename_i e predicted
    refine setTimebase (fun i => i.predictEdge ?_ e) _ _ t
    unfold Timebase.predictedAt at predicted
    split at predicted
    · assumption
    · cases predicted
  · exact refl s

end Keeps

end Sys2Proof.Machine

/-! The Plan Store: totals over the test points, reference counts, and how creates, sets and drops keep every
invariant (R1, R9, R11 to R20, R24). -/

namespace Sys2Proof.Machine

/-! ## Tables: one entry apart from the rest -/

section
variable {α : Type}

/-- In canonical form an entry listed is read at its handle. -/
theorem Table.at?_of_mem {t : Table α} {size : Nat} (wf : t.wf size = true) {h : Nat} {a : α} (hm : (h, a) ∈ t) :
    t.at? h = some a := by
  obtain ⟨-, rising⟩ := (Table.wf_iff t size).1 wf
  clear wf
  induction t with
  | nil => cases hm
  | cons e t ih =>
    obtain ⟨first, rest⟩ := List.pairwise_cons.1 rising
    rcases List.mem_cons.1 hm with rfl | hm
    · simp [Table.at?]
    · have := first _ hm
      simpa [Table.at?, Nat.ne_of_lt this] using ih hm rest

theorem Table.drop_put (t : Table α) (h : Nat) (a : α) : Table.drop (t.put h a) h = t.drop h := by
  induction t with
  | nil => simp [Table.put, Table.drop]
  | cons e t ih =>
    obtain ⟨k, b⟩ := e
    unfold Table.put
    split
    · simp [Table.drop]
    · split
      · simp [Table.drop, *]
      · simp [Table.drop, *]

theorem Table.drop_change (t : Table α) (h : Nat) (f : α → α) : Table.drop (t.change h f) h = t.drop h := by
  induction t with
  | nil => rfl
  | cons e t ih =>
    obtain ⟨k, b⟩ := e
    by_cases hk : k = h <;> simp [Table.change, Table.drop, hk, ih]

theorem Table.drop_drop (t : Table α) (h : Nat) : Table.drop (t.drop h) h = t.drop h := by
  induction t with
  | nil => rfl
  | cons e t ih =>
    obtain ⟨k, b⟩ := e
    by_cases hk : k = h <;> simp [Table.drop, hk, ih]

theorem Table.drop_of_absent {t : Table α} {h : Nat} (absent : t.at? h = none) : t.drop h = t := by
  induction t with
  | nil => rfl
  | cons e t ih =>
    obtain ⟨k, b⟩ := e
    by_cases hk : k = h
    · simp [Table.at?, hk] at absent
    · simpa [Table.drop, hk] using ih (by simpa [Table.at?, hk] using absent)

/-- The sum of a number over the records of a table. -/
def Table.total (t : Table α) (f : α → Nat) : Nat := (t.map fun e => f e.2).sum

/-- In canonical form a total is that of the rest and the number of the record at a handle. -/
theorem Table.total_split {t : Table α} {size : Nat} (wf : t.wf size = true) (f : α → Nat) (h : Nat) :
    t.total f = Table.total (t.drop h) f + ((t.at? h).map f).getD 0 := by
  obtain ⟨-, rising⟩ := (Table.wf_iff t size).1 wf
  clear wf
  induction t with
  | nil => rfl
  | cons e t ih =>
    obtain ⟨k, b⟩ := e
    obtain ⟨first, rest⟩ := List.pairwise_cons.1 rising
    by_cases hk : k = h
    · subst hk
      have absent : Table.at? t k = none := by
        cases hc : Table.at? t k with
        | none => rfl
        | some c => exact absurd (first _ (Table.mem_of_at? t k c hc)) (lt_irrefl _)
      have same : Table.drop ((k, b) :: t) k = t := by simp [Table.drop, Table.drop_of_absent absent]
      rw [same]
      simp [Table.total, Table.at?, Nat.add_comm]
    · have := ih rest
      simp only [Table.total, Table.drop, Table.at?, hk, if_false, List.map_cons, List.sum_cons] at this ⊢
      omega

/-- Changing one record is changing every record by a function of its handle. -/
theorem Table.change_eq_changeAll (t : Table α) (h : Nat) (f : α → α) :
    t.change h f = t.changeAll fun k a => if k = h then f a else a := by
  induction t with
  | nil => rfl
  | cons e t ih => simp only [Table.change, Table.changeAll, ih]

end

theorem State.stateReferences_eq (s : State) (h : Nat) :
    s.stateReferences h = s.points.total fun p => p.content.states.count h := rfl

theorem State.curveReferences_eq (s : State) (h : Nat) :
    s.curveReferences h = s.points.total fun p => if p.content.curve? = some h then 1 else 0 := by
  unfold State.curveReferences Table.total
  rw [← List.countP_eq_length_filter]
  induction s.points with
  | nil => rfl
  | cons e t ih =>
    rw [List.countP_cons, ih, List.map_cons, List.sum_cons, Nat.add_comm]
    simp only [decide_eq_true_eq]

/-! ## Reference counts -/

/-- A record's reference count changes and nothing else of it. -/
theorem Table.at?_countStates (t : Table StateRecord) (f : Nat → Nat) (handles : List Nat) (k : Nat) :
    (Table.countStates t f handles).at? k =
      (t.at? k).map fun r => { r with refCount := f^[handles.count k] r.refCount } := by
  unfold Table.countStates
  induction handles generalizing t with
  | nil => simp
  | cons h handles ih =>
    rw [List.foldl_cons, ih, Table.at?_change]
    by_cases hk : h = k
    · subst hk
      simp [Option.map_map, Function.comp_def]
    · simp [hk]

theorem Table.wf_countStates {t : Table StateRecord} {size : Nat} (f : Nat → Nat) (handles : List Nat)
    (wf : t.wf size = true) : (Table.countStates t f handles).wf size = true := by
  unfold Table.countStates
  induction handles generalizing t with
  | nil => exact wf
  | cons h handles ih => exact ih (Table.wf_change t size h _ wf)

theorem Table.at?_countCurve (t : Table Characteristic) (f : Nat → Nat) (c : PointContent) (k : Nat) :
    (Table.countCurve t f c).at? k =
      (t.at? k).map fun r => { r with refCount := if c.curve? = some k then f r.refCount else r.refCount } := by
  unfold Table.countCurve
  split
  · rename_i none
    simp [none]
  · rename_i h named
    rw [Table.at?_change]
    by_cases hk : h = k <;> simp [named, hk]

theorem Table.wf_countCurve {t : Table Characteristic} {size : Nat} (f : Nat → Nat) (c : PointContent)
    (wf : t.wf size = true) : (Table.countCurve t f c).wf size = true := by
  unfold Table.countCurve
  split
  · exact wf
  · exact Table.wf_change t size _ _ wf

theorem addOne_iterate (n m : Nat) : (· + 1)^[n] m = m + n := by
  induction n generalizing m with
  | zero => rfl
  | succ n ih => rw [Function.iterate_succ_apply, ih]; omega

theorem subOne_iterate (n m : Nat) : (· - 1)^[n] m = m - n := by
  induction n generalizing m with
  | zero => rfl
  | succ n ih => rw [Function.iterate_succ_apply, ih]; omega

/-- How many references to a characteristic a content holds: one or none. -/
def PointContent.curveCount (c : PointContent) (k : Nat) : Nat := if c.curve? = some k then 1 else 0

section
variable (s : State) (c : PointContent) (k : Nat)

theorem State.addReferences_states : (s.addReferences c).states.at? k =
    (s.states.at? k).map fun r => { r with refCount := r.refCount + c.states.count k } := by
  simp only [State.addReferences, Table.at?_countStates, addOne_iterate]

theorem State.addReferences_curves : (s.addReferences c).curves.at? k =
    (s.curves.at? k).map fun r => { r with refCount := r.refCount + c.curveCount k } := by
  simp only [State.addReferences, Table.at?_countCurve, PointContent.curveCount]
  congr 1
  funext r
  split <;> rfl

theorem State.removeReferences_states : (s.removeReferences c).states.at? k =
    (s.states.at? k).map fun r => { r with refCount := r.refCount - c.states.count k } := by
  simp only [State.removeReferences, Table.at?_countStates, subOne_iterate]

theorem State.removeReferences_curves : (s.removeReferences c).curves.at? k =
    (s.curves.at? k).map fun r => { r with refCount := r.refCount - c.curveCount k } := by
  simp only [State.removeReferences, Table.at?_countCurve, PointContent.curveCount]
  congr 1
  funext r
  split <;> rfl

end

theorem State.addReferences_wf {s : State} {m n : Nat} (c : PointContent) (states : s.states.wf m = true)
    (curves : s.curves.wf n = true) :
    (s.addReferences c).states.wf m = true ∧ (s.addReferences c).curves.wf n = true :=
  ⟨Table.wf_countStates _ _ states, Table.wf_countCurve _ _ curves⟩

theorem State.removeReferences_wf {s : State} {m n : Nat} (c : PointContent) (states : s.states.wf m = true)
    (curves : s.curves.wf n = true) :
    (s.removeReferences c).states.wf m = true ∧ (s.removeReferences c).curves.wf n = true :=
  ⟨Table.wf_countStates (· - 1) c.states states, Table.wf_countCurve (· - 1) c curves⟩

/-! ## Contents that passed their checks -/

/-- A checked content has a tag, names records present, and its search parameters are valid (R6 to R8). -/
theorem checkPoint_spec {states : Table StateRecord} {curves : Table Characteristic} {raw : RawPoint} {c : PointContent}
    (h : checkPoint states curves raw = some c) :
    c.tag ≠ 0 ∧ (∀ k ∈ c.states, (states.at? k).isSome) ∧ (∀ k, c.curve? = some k → (curves.at? k).isSome) ∧
      ∀ params, c.kind = .search params → params.valid := by
  unfold checkPoint at h
  split at h
  · rename_i start combine kind hs hc hk
    split at h
    · rename_i checks
      cases h
      simp only [Bool.and_eq_true, decide_eq_true_eq, List.all_eq_true, and_assoc] at checks
      obtain ⟨tag, -, -, -, present, -⟩ := checks
      refine ⟨by simpa using tag, present, ?_, ?_⟩
      · intro k named
        unfold kindOf at hk
        split at hk
        · split at hk
          · rename_i e he
            split at hk
            · cases hk
              unfold expectationOf at he
              cases e <;> simp only [PointContent.curve?, reduceCtorEq, Option.some.injEq] at named
              subst named
              split at he
              · cases he
              · split at he <;> cases he
              · split at he
                · rename_i both
                  cases he
                  simp only [Bool.and_eq_true] at both
                  exact both.1
                · cases he
              · split at he <;> cases he
              · cases he
            · cases hk
          · cases hk
        · obtain ⟨params, -, rfl⟩ := Option.map_eq_some_iff.1 hk
          cases named
        · cases hk
      · rintro params rfl
        unfold kindOf at hk
        split at hk
        · split at hk
          · split at hk <;> cases hk
          · cases hk
        · obtain ⟨q, hq, e⟩ := Option.map_eq_some_iff.1 hk
          cases e
          unfold searchParamsOf at hq
          split at hq
          · split at hq
            · rename_i ranges
              simp only [Bool.and_eq_true, decide_eq_true_eq, and_assoc] at ranges
              cases hq
              exact ⟨ranges.1, ranges.2.2.1, ranges.2.2.2.2.1⟩
            · cases hq
          · cases hq
        · cases hk
    · cases h
  · cases h

theorem State.tagHeld_eq_false (s : State) (tag except : Nat) :
    s.tagHeld tag except = false ↔ ∀ e ∈ s.points, e.1 ≠ except → e.2.content.tag ≠ tag := by
  simp [State.tagHeld]

/-! ## One test point is created, set or dropped -/

section
variable {s u : State}

/-- The tables stay consistent where one test point's content is replaced, put or dropped and its references are moved
with it (R14). -/
theorem ReferenceInv.replace (i : ReferenceInv s) {h : Nat} {old new : Option TestPoint} (before : s.points.at? h = old)
    (here : u.points.at? h = new) (wf : u.points.wf Config.pointEntries = true)
    (rest : u.points.drop h = s.points.drop h) (statesWf : u.states.wf Config.stateEntries = true)
    (curvesWf : u.curves.wf Config.curveEntries = true)
    (states : ∀ k, u.states.at? k = (s.states.at? k).map fun r => { r with
      refCount := r.refCount - (old.map fun p => p.content.states.count k).getD 0 +
        (new.map fun p => p.content.states.count k).getD 0 })
    (curves : ∀ k, u.curves.at? k = (s.curves.at? k).map fun r => { r with
      refCount := r.refCount - (old.map fun p => p.content.curveCount k).getD 0 +
        (new.map fun p => p.content.curveCount k).getD 0 })
    (present : ∀ q, new = some q → (∀ k ∈ q.content.states, (s.states.at? k).isSome) ∧
      ∀ k, q.content.curve? = some k → (s.curves.at? k).isSome)
    (tagged : ∀ q, new = some q → q.content.tag ≠ 0 ∧
      ∀ k p, k ≠ h → s.points.at? k = some p → p.content.tag ≠ q.content.tag) : ReferenceInv u := by
  obtain ⟨⟨points, -, -, tags, nonzero⟩, statesPresent, curvesPresent, stateCounts, curveCounts⟩ := i
  have others : ∀ k, k ≠ h → u.points.at? k = s.points.at? k := fun k hk => by
    have := congrArg (fun t => Table.at? t k) rest
    simpa [Table.at?_drop, hk.symm] using this
  refine ⟨⟨wf, statesWf, curvesWf, ?_, ?_⟩, ?_, ?_, ?_, ?_⟩
  · intro k p j q hk hj same
    by_cases k' : k = h <;> by_cases j' : j = h
    · rw [k', j']
    · subst k'
      exact absurd same.symm ((tagged p (here ▸ hk)).2 j q j' (others j j' ▸ hj))
    · subst j'
      exact absurd same ((tagged q (here ▸ hj)).2 k p k' (others k k' ▸ hk))
    · exact tags k p j q (others k k' ▸ hk) (others j j' ▸ hj) same
  · intro k p hk
    by_cases k' : k = h
    · subst k'
      exact (tagged p (here ▸ hk)).1
    · exact nonzero k p (others k k' ▸ hk)
  · intro k p j hk hj
    rw [states j, Option.isSome_map]
    by_cases k' : k = h
    · subst k'
      exact (present p (here ▸ hk)).1 j hj
    · exact statesPresent k p j (others k k' ▸ hk) hj
  · intro k p j hk hj
    rw [curves j, Option.isSome_map]
    by_cases k' : k = h
    · subst k'
      exact (present p (here ▸ hk)).2 j hj
    · exact curvesPresent k p j (others k k' ▸ hk) hj
  · intro k r hk
    obtain ⟨r', hr, rfl⟩ := Option.map_eq_some_iff.1 ((states k).symm.trans hk)
    have was := stateCounts k r' hr
    rw [State.stateReferences_eq, Table.total_split points _ h, before] at was
    rw [State.stateReferences_eq, Table.total_split wf _ h, here, rest]
    simp only
    omega
  · intro k r hk
    obtain ⟨r', hr, rfl⟩ := Option.map_eq_some_iff.1 ((curves k).symm.trans hk)
    have was := curveCounts k r' hr
    rw [State.curveReferences_eq, Table.total_split points _ h, before] at was
    rw [State.curveReferences_eq, Table.total_split wf _ h, here, rest]
    simp only [PointContent.curveCount]
    omega

/-- An unnamed state has no reference. -/
theorem State.stateReferences_eq_zero {size : Nat} (wf : s.points.wf size = true) (h : Nat) :
    s.stateReferences h = 0 ↔ ∀ k p, s.points.at? k = some p → h ∉ p.content.states := by
  have : s.stateReferences h = 0 ↔ ∀ e ∈ s.points, h ∉ e.2.content.states := by
    simp only [State.stateReferences, List.sum_eq_zero_iff, List.mem_map, forall_exists_index, and_imp,
      forall_apply_eq_imp_iff₂, List.count_eq_zero]
  rw [this]
  exact ⟨fun none k p hk => none _ (Table.mem_of_at? _ _ _ hk), fun none e he => none _ _ (Table.at?_of_mem wf he)⟩

/-- An unnamed characteristic has no reference. -/
theorem State.curveReferences_eq_zero {size : Nat} (wf : s.points.wf size = true) (h : Nat) :
    s.curveReferences h = 0 ↔ ∀ k p, s.points.at? k = some p → p.content.curve? ≠ some h := by
  have : s.curveReferences h = 0 ↔ ∀ e ∈ s.points, e.2.content.curve? ≠ some h := by
    simp [State.curveReferences, List.filter_eq_nil_iff]
  rw [this]
  exact ⟨fun none k p hk => none _ (Table.mem_of_at? _ _ _ hk), fun none e he => none _ _ (Table.at?_of_mem wf he)⟩

/-- The pool of states changes: every state named stays present, every count stays the number of references. -/
theorem ReferenceInv.ofStates (i : ReferenceInv s) {t : Table StateRecord} (wf : t.wf Config.stateEntries = true)
    (present : ∀ k, (s.states.at? k).isSome → s.stateReferences k ≠ 0 → (t.at? k).isSome)
    (counts : ∀ k r, t.at? k = some r → r.refCount = s.stateReferences k) : ReferenceInv { s with states := t } where
  tables := { i.tables with states := wf }
  statesPresent k p h hk hh := present h (i.statesPresent k p h hk hh) fun zero =>
    (State.stateReferences_eq_zero i.tables.points h).1 zero k p hk hh
  curvesPresent := i.curvesPresent
  stateCounts := counts
  curveCounts := i.curveCounts

theorem ReferenceInv.ofCurves (i : ReferenceInv s) {t : Table Characteristic} (wf : t.wf Config.curveEntries = true)
    (present : ∀ k, (s.curves.at? k).isSome → s.curveReferences k ≠ 0 → (t.at? k).isSome)
    (counts : ∀ k r, t.at? k = some r → r.refCount = s.curveReferences k) : ReferenceInv { s with curves := t } where
  tables := { i.tables with curves := wf }
  statesPresent := i.statesPresent
  curvesPresent k p h hk hh := present h (i.curvesPresent k p h hk hh) fun zero =>
    (State.curveReferences_eq_zero i.tables.points h).1 zero k p hk hh
  stateCounts := i.stateCounts
  curveCounts := counts

/-- A create leaves no reference to the new state or characteristic: none named it while it was absent. -/
theorem ReferenceInv.unnamed_state (i : ReferenceInv s) {h : Nat} (absent : s.states.at? h = none) :
    s.stateReferences h = 0 :=
  (State.stateReferences_eq_zero i.tables.points h).2 fun k p hk hh => by
    simpa [absent] using i.statesPresent k p h hk hh

theorem ReferenceInv.unnamed_curve (i : ReferenceInv s) {h : Nat} (absent : s.curves.at? h = none) :
    s.curveReferences h = 0 :=
  (State.curveReferences_eq_zero i.tables.points h).2 fun k p hk hh => by
    simpa [absent] using i.curvesPresent k p h hk hh

end

/-- The revision of a test point that names another characteristic, or none, stands. -/
theorem State.revisionOf_other {s u : State} {h : Nat} (curves : ∀ k, k ≠ h → u.curves.at? k = s.curves.at? k) {p : TestPoint}
    (other : p.content.curve? ≠ some h) : u.revisionOf p = s.revisionOf p := by
  unfold State.revisionOf
  cases named : p.content.curve? with
  | none => rfl
  | some k =>
    rw [Option.bind_some, Option.bind_some, curves k]
    rintro rfl
    exact other named

/-- A result keeps its consistency where only UNREAD or STALE changes. -/
theorem Result.inv_flags {r : Result} (h : r.inv) (stale unread : Bool) :
    ({ r with flags := { r.flags with stale := stale, unread := unread } } : Result).inv := { h with }

namespace Keeps
variable {s : State}

/-! ## Test points -/

/-- Records of test points change without their content, status and context, and each result that stands fresh stood
fresh before with the same revision. -/
theorem marks (s : State) {g : Nat → TestPoint → TestPoint} (content : ∀ k p, (g k p).content = p.content)
    (status : ∀ k p, (g k p).status = p.status) (context : ∀ k p, (g k p).context = p.context)
    (result : ∀ k p r, (g k p).result = some r → ∃ q, p.result = some q ∧ (q.inv → r.inv) ∧
      (r.flags.stale = false → q.flags.stale = false) ∧ r.revision = q.revision) :
    Keeps s { s with points := s.points.changeAll g } := by
  have back : ∀ {k q}, (s.points.changeAll g).at? k = some q → ∃ p, s.points.at? k = some p ∧ g k p = q :=
    fun hk => Option.map_eq_some_iff.1 ((Table.at?_changeAll _ _ _).symm.trans hk)
  have there : ∀ {k p}, s.points.at? k = some p → (s.points.changeAll g).at? k = some (g k p) := fun hk => by
    rw [Table.at?_changeAll, hk, Option.map_some]
  have revisionOf : ∀ (k : Nat) (p : TestPoint), State.revisionOf { s with points := s.points.changeAll g } (g k p) =
      s.revisionOf p := fun k p => by
    simp only [State.revisionOf, content]
  exact {
    refs := fun i => i.of_contents (Table.changeAll_through _ content) rfl rfl
    run := fun i => by
      obtain ⟨⟨room, distinct, markedFirst, waiting, active, idle⟩, searches⟩ := i
      have statuses : ∀ k (x : Status → Prop), (∃ q, (s.points.changeAll g).at? k = some q ∧ x q.status) ↔
          ∃ p, s.points.at? k = some p ∧ x p.status := by
        intro k x
        constructor
        · rintro ⟨q, hq, hx⟩
          obtain ⟨p, hp, rfl⟩ := back hq
          exact ⟨p, hp, status k p ▸ hx⟩
        · rintro ⟨p, hp, hx⟩
          exact ⟨_, there hp, (status k p).symm ▸ hx⟩
      refine ⟨⟨room, distinct, markedFirst, fun k => (waiting k).trans ?_, fun k => (active k).trans ?_, idle⟩, ?_⟩
      · exact (statuses k fun x => x = .queued ∨ x = .suspended).symm
      · exact (statuses k fun x => x = .active).symm
      · intro k q hq
        obtain ⟨p, hp, rfl⟩ := back hq
        have := searches k p hp
        unfold TestPoint.searchInv at this ⊢
        rwa [content, status, context]
    result := fun i => by
      refine ⟨fun k q r hq hr => ?_, i.working⟩
      obtain ⟨p, hp, rfl⟩ := back hq
      obtain ⟨r', hr', kept, -⟩ := result k p r hr
      exact kept (i.results k p r' hp hr')
    revision := fun _ _ i => by
      refine ⟨fun k q r v hq hr fresh hv => ?_, fun w v hw hv => ?_⟩
      · obtain ⟨p, hp, rfl⟩ := back hq
        obtain ⟨r', hr', -, stale, revision⟩ := result k p r hr
        rw [revisionOf]
        exact i.results k p r' v hp hr' (stale fresh) (revision ▸ hv)
      · obtain ⟨h, p, ha, hv⟩ := i.working w v hw hv
        obtain ⟨named, present⟩ := (s.activePoint_eq_some h p).1 ha
        exact ⟨h, g h p, (State.activePoint_eq_some _ _ _).2 ⟨named, there present⟩, (revisionOf h p).trans hv⟩ }

/-- One record changes without its content, status and context. -/
theorem mark (s : State) (h : Nat) {f : TestPoint → TestPoint} (content : ∀ p, (f p).content = p.content)
    (status : ∀ p, (f p).status = p.status) (context : ∀ p, (f p).context = p.context)
    (result : ∀ p r, (f p).result = some r → ∃ q, p.result = some q ∧ (q.inv → r.inv) ∧
      (r.flags.stale = false → q.flags.stale = false) ∧ r.revision = q.revision) : Keeps s (s.changePoint h f) := by
  unfold State.changePoint
  rw [Table.change_eq_changeAll]
  refine marks s (fun k p => ?_) (fun k p => ?_) (fun k p => ?_) fun k p r => ?_
  · split <;> simp [content]
  · split <;> simp [status]
  · split <;> simp [context]
  · split
    · exact result p r
    · exact fun hr => ⟨r, hr, id, id, rfl⟩

theorem markStale (p : TestPoint) : ∀ r, p.markStale.result = some r → ∃ q, p.result = some q ∧ (q.inv → r.inv) ∧
    (r.flags.stale = false → q.flags.stale = false) ∧ r.revision = q.revision := by
  intro r hr
  obtain ⟨q, hq, rfl⟩ := Option.map_eq_some_iff.1 hr
  exact ⟨q, hq, fun i => Result.inv_flags i true q.flags.unread, (fun e => nomatch e), rfl⟩

theorem markRead (p : TestPoint) : ∀ r, p.markRead.result = some r → ∃ q, p.result = some q ∧ (q.inv → r.inv) ∧
    (r.flags.stale = false → q.flags.stale = false) ∧ r.revision = q.revision := by
  intro r hr
  obtain ⟨q, hq, rfl⟩ := Option.map_eq_some_iff.1 hr
  exact ⟨q, hq, fun i => Result.inv_flags i q.flags.stale false, id, rfl⟩

theorem staleByState (s : State) (h : Nat) : Keeps s (s.staleByState h) := by
  refine marks s (fun k p => ?_) (fun k p => ?_) (fun k p => ?_) fun k p r => ?_
  · split <;> rfl
  · split <;> rfl
  · split <;> rfl
  · split
    · exact markStale p r
    · exact fun hr => ⟨r, hr, id, id, rfl⟩

/-- A test point is created at an absent handle with its references (R12, R14). -/
theorem newPoint {c : PointContent} {raw : RawPoint} (checked : checkPoint s.states s.curves raw = some c)
    (tag : s.tagHeld c.tag 0 = false) {h : Nat} (first : 1 ≤ h) (last : h ≤ Config.pointEntries)
    (absent : s.points.at? h = none) (edit : Nat) :
    Keeps s ({ s with points := s.points.put h (Machine.newPoint edit c) }.addReferences c) := by
  obtain ⟨nonzero, statesPresent, curvesPresent, valid⟩ := checkPoint_spec checked
  have here : (s.points.put h (Machine.newPoint edit c)).at? h = some (Machine.newPoint edit c) := by
    simp [Table.at?_put]
  have others : ∀ k, k ≠ h → (s.points.put h (Machine.newPoint edit c)).at? k = s.points.at? k := fun k hk => by
    simp [Table.at?_put, hk.symm]
  exact {
    refs := fun i => by
      obtain ⟨statesWf, curvesWf⟩ := State.addReferences_wf
        (s := { s with points := s.points.put h (Machine.newPoint edit c) }) c i.tables.states i.tables.curves
      refine i.replace absent here (Table.wf_put _ _ _ _ i.tables.points first last) (Table.drop_put _ _ _)
        statesWf curvesWf (fun k => State.addReferences_states _ c k) (fun k => State.addReferences_curves _ c k) ?_ ?_
      · rintro q ⟨rfl⟩
        exact ⟨statesPresent, curvesPresent⟩
      · rintro q ⟨rfl⟩
        refine ⟨nonzero, fun k p _ hk => ?_⟩
        have listed := Table.mem_of_at? _ _ _ hk
        refine (State.tagHeld_eq_false s c.tag 0).1 tag _ listed ?_
        exact Nat.one_le_iff_ne_zero.1 (((Table.wf_iff _ _).1 i.tables.points).1 _ listed).1
    run := fun i => i.update_record here others rfl
      (fun x hx => by simp [absent, Machine.newPoint, hx.symm])
      (fun q hq => by
        cases hq
        exact (TestPoint.searchInv_waiting (.inl rfl)).2 ⟨rfl, valid⟩)
    result := fun i => i.update here others
      (fun q r hq hr => by
        cases hq
        cases hr) (fun _ => id)
    revision := fun r _ i => i.update here others
      (fun k v hk => by
        rw [State.addReferences_curves, Option.map_map]
        exact hk)
      (fun q r v hq hr => by
        cases hq
        cases hr)
      (fun w v hw hv => by
        obtain ⟨j, q, ha, hv⟩ := i.working w v hw hv
        obtain ⟨named, present⟩ := (s.activePoint_eq_some j q).1 ha
        refine ⟨j, q, (State.activePoint_eq_some _ _ _).2 ⟨named, (others j ?_).trans present⟩, hv⟩
        rintro rfl
        simp [absent] at present) }

/-- The references of a test point's content move to its new content (R14, R15). -/
theorem setPoint {c : PointContent} {raw : RawPoint} (checked : checkPoint s.states s.curves raw = some c) {h : Nat}
    {p : TestPoint} (present : s.points.at? h = some p) (idle : p.status = .idle) (tag : s.tagHeld c.tag h = false) :
    Keeps s (((s.changePoint h fun q => { q.markStale with content := c }).removeReferences p.content).addReferences c) := by
  obtain ⟨nonzero, statesPresent, curvesPresent, valid⟩ := checkPoint_spec checked
  have here : (s.points.change h fun q => { q.markStale with content := c }).at? h =
      some { p.markStale with content := c } := by simp [Table.at?_change, present]
  have others : ∀ k, k ≠ h → (s.points.change h fun q => { q.markStale with content := c }).at? k = s.points.at? k :=
    fun k hk => by simp [Table.at?_change, hk.symm]
  exact {
    refs := fun i => by
      obtain ⟨statesWf, curvesWf⟩ := State.removeReferences_wf
        (s := s.changePoint h fun q => { q.markStale with content := c }) p.content i.tables.states i.tables.curves
      obtain ⟨statesWf, curvesWf⟩ := State.addReferences_wf c statesWf curvesWf
      refine i.replace present here (Table.wf_change _ _ _ _ i.tables.points) (Table.drop_change _ _ _)
        statesWf curvesWf (fun k => ?_) (fun k => ?_) ?_ ?_
      · rw [State.addReferences_states, State.removeReferences_states, Option.map_map]
        rfl
      · rw [State.addReferences_curves, State.removeReferences_curves, Option.map_map]
        rfl
      · rintro q ⟨rfl⟩
        exact ⟨statesPresent, curvesPresent⟩
      · rintro q ⟨rfl⟩
        exact ⟨nonzero, fun k p hk' hk =>
          (State.tagHeld_eq_false s c.tag h).1 tag _ (Table.mem_of_at? _ _ _ hk) hk'⟩
    run := fun i => i.update_record here others rfl
      (fun x _ => by simp [present, TestPoint.markStale])
      (fun q hq => by
        cases hq
        obtain ⟨none, -⟩ := (TestPoint.searchInv_waiting (.inl idle)).1 (i.searches h p present)
        exact (TestPoint.searchInv_waiting (p := { p.markStale with content := c }) (.inl idle)).2 ⟨none, valid⟩)
    result := fun i => i.update here others
      (fun q r hq hr => by
        cases hq
        obtain ⟨r', hr', kept, -⟩ := markStale p r hr
        exact kept (i.results h p r' present hr')) (fun _ => id)
    revision := fun r _ i => i.update here others
      (fun k v hk => by
        rw [State.addReferences_curves, State.removeReferences_curves, Option.map_map, Option.map_map]
        exact hk)
      (fun q r v hq hr fresh => by
        cases hq
        obtain ⟨r', -, rfl⟩ := Option.map_eq_some_iff.1 hr
        cases fresh)
      (fun w v hw hv => by
        obtain ⟨j, q, ha, hv⟩ := i.working w v hw hv
        have status := r.status_of_active ha
        obtain ⟨named, there⟩ := (s.activePoint_eq_some j q).1 ha
        refine ⟨j, q, (State.activePoint_eq_some _ _ _).2 ⟨named, (others j ?_).trans there⟩, hv⟩
        rintro rfl
        cases present.symm.trans there
        simp [idle] at status) }

/-- An IDLE test point is made absent and its references removed (R14, R19). -/
theorem dropPoint {h : Nat} {p : TestPoint} (present : s.points.at? h = some p) (idle : p.status = .idle) :
    Keeps s ({ s with points := s.points.drop h }.removeReferences p.content) := by
  have here : (s.points.drop h).at? h = none := by simp [Table.at?_drop]
  have others : ∀ k, k ≠ h → (s.points.drop h).at? k = s.points.at? k := fun k hk => by
    simp [Table.at?_drop, hk.symm]
  exact {
    refs := fun i => by
      obtain ⟨statesWf, curvesWf⟩ := State.removeReferences_wf
        (s := { s with points := s.points.drop h }) p.content i.tables.states i.tables.curves
      exact i.replace present here (Table.wf_drop _ _ _ i.tables.points) (Table.drop_drop _ _) statesWf curvesWf
        (fun k => State.removeReferences_states _ p.content k) (fun k => State.removeReferences_curves _ p.content k)
        (fun _ e => nomatch e) (fun _ e => nomatch e)
    run := fun i => i.update_record here others rfl
      (fun x hx => by simp [present, idle, hx.symm]) (fun _ e => nomatch e)
    result := fun i => i.update here others (fun _ _ e => nomatch e) (fun _ => id)
    revision := fun r _ i => i.update here others
      (fun k v hk => by
        rw [State.removeReferences_curves, Option.map_map]
        exact hk)
      (fun _ _ _ e => nomatch e)
      (fun w v hw hv => by
        obtain ⟨j, q, ha, hv⟩ := i.working w v hw hv
        have status := r.status_of_active ha
        obtain ⟨named, there⟩ := (s.activePoint_eq_some j q).1 ha
        refine ⟨j, q, (State.activePoint_eq_some _ _ _).2 ⟨named, (others j ?_).trans there⟩, hv⟩
        rintro rfl
        cases present.symm.trans there
        simp [idle] at status) }

/-! ## States -/

/-- A change of the pool of states that keeps the tables consistent. -/
theorem ofStates {t : Table StateRecord} (h : ReferenceInv s → ReferenceInv { s with states := t }) :
    Keeps s { s with states := t } where
  refs := h

theorem createState {edit : Nat} {content : RawState} {h : Nat} {made : State}
    (created : s.createState edit content = .ok (h, made)) : Keeps s made := by
  unfold State.createState at created
  split at created
  · cases created
  · split at created
    · cases created
    · rename_i c checked
      split at created
      · cases created
      · rename_i k lowest
        cases created
        obtain ⟨first, last, absent, -⟩ := Table.lowestAbsent_spec _ _ _ lowest
        refine ofStates fun i => i.ofStates (Table.wf_put _ _ _ _ i.tables.states first last) (fun j hj _ => ?_)
          fun j r hj => ?_
        · rw [Table.at?_put]
          split
          · rfl
          · exact hj
        · rw [Table.at?_put] at hj
          split at hj
          · rename_i same
            cases hj
            exact (same ▸ i.unnamed_state absent).symm
          · exact i.stateCounts j r hj

theorem loadStates (s : State) (entries : List (Nat × RawState)) : Keeps s (s.loadStates entries).1 := by
  induction entries generalizing s with
  | nil => exact refl s
  | cons e rest ih =>
    obtain ⟨edit, content⟩ := e
    unfold State.loadStates
    split
    · exact refl s
    · exact (createState (by assumption)).trans (ih _)

theorem setState (s : State) (h : Nat) (c : StateContent) :
    Keeps s { s with states := s.states.change h fun q => { q with content := c } } := by
  refine ofStates fun i => i.ofStates (Table.wf_change _ _ _ _ i.tables.states) (fun j hj _ => ?_) fun j r hj => ?_
  · rw [Table.at?_change]
    split
    · rwa [Option.isSome_map]
    · exact hj
  · rw [Table.at?_change] at hj
    split at hj
    · obtain ⟨r', hr, rfl⟩ := Option.map_eq_some_iff.1 hj
      exact i.stateCounts j r' hr
    · exact i.stateCounts j r hj

theorem dropState {h : Nat} {r : StateRecord} (present : s.states.at? h = some r) (unreferenced : r.refCount = 0) :
    Keeps s { s with states := s.states.drop h } := by
  refine ofStates fun i => i.ofStates (Table.wf_drop _ _ _ i.tables.states) (fun j hj named => ?_) fun j r hj => ?_
  · rw [Table.at?_drop, if_neg]
    · exact hj
    · rintro rfl
      exact named ((i.stateCounts h r present).symm.trans unreferenced)
  · rw [Table.at?_drop] at hj
    split at hj
    · cases hj
    · exact i.stateCounts j r hj

/-! ## Characteristics -/

theorem newCurve {h : Nat} (first : 1 ≤ h) (last : h ≤ Config.curveEntries) (absent : s.curves.at? h = none)
    (edit : Nat) (c : CurveContent) : Keeps s { s with curves := s.curves.put h (Machine.newCurve edit c) } where
  refs i := by
    refine i.ofCurves (Table.wf_put _ _ _ _ i.tables.curves first last) (fun j hj _ => ?_) fun j r hj => ?_
    · rw [Table.at?_put]
      split
      · rfl
      · exact hj
    · rw [Table.at?_put] at hj
      split at hj
      · rename_i same
        cases hj
        exact (same ▸ i.unnamed_curve absent).symm
      · exact i.curveCounts j r hj
  revision _ _ i := by
    have curves : ∀ k v, (s.curves.at? k).map Characteristic.revision = some v →
        ((s.curves.put h (Machine.newCurve edit c)).at? k).map Characteristic.revision = some v := by
      intro k v hk
      rw [Table.at?_put, if_neg]
      · exact hk
      · rintro rfl
        simp [absent] at hk
    exact ⟨fun k p r v hk hr fresh hv => State.revisionOf_congr curves (i.results k p r v hk hr fresh hv),
      fun w v hw hv => by
        obtain ⟨j, q, ha, hv⟩ := i.working w v hw hv
        exact ⟨j, q, ha, State.revisionOf_congr curves hv⟩⟩

theorem dropCurve {h : Nat} {c : Characteristic} (present : s.curves.at? h = some c) (unreferenced : c.refCount = 0) :
    Keeps s { s with curves := s.curves.drop h } where
  refs i := by
    refine i.ofCurves (Table.wf_drop _ _ _ i.tables.curves) (fun j hj named => ?_) fun j r hj => ?_
    · rw [Table.at?_drop, if_neg]
      · exact hj
      · rintro rfl
        exact named ((i.curveCounts h c present).symm.trans unreferenced)
    · rw [Table.at?_drop] at hj
      split at hj
      · cases hj
      · exact i.curveCounts j r hj
  revision _ f i := by
    have unnamed := (State.curveReferences_eq_zero f.tables.points h).1
      ((f.curveCounts h c present).symm.trans unreferenced)
    have others : ∀ k, k ≠ h → (s.curves.drop h).at? k = s.curves.at? k := fun k hk => by
      simp [Table.at?_drop, hk.symm]
    refine ⟨fun k p r v hk hr fresh hv => ?_, fun w v hw hv => ?_⟩
    · exact (State.revisionOf_other others (unnamed k p hk)).trans (i.results k p r v hk hr fresh hv)
    · obtain ⟨j, q, ha, hv⟩ := i.working w v hw hv
      exact ⟨j, q, ha, (State.revisionOf_other others (unnamed j q ((s.activePoint_eq_some j q).1 ha).2)).trans hv⟩

/-- A characteristic is replaced and the results of the test points that name it become STALE (R17, R24). -/
theorem setCurve (s : State) {h : Nat} (c : CurveContent) (unused : s.curveInUse h = false) :
    Keeps s ({ s with curves := s.curves.change h fun q => q.replace c }.staleByCurve h) := by
  have staled : Keeps s (s.staleByCurve h) := by
    refine marks s (fun k p => ?_) (fun k p => ?_) (fun k p => ?_) fun k p r => ?_
    · split <;> rfl
    · split <;> rfl
    · split <;> rfl
    · split
      · exact markStale p r
      · exact fun hr => ⟨r, hr, id, id, rfl⟩
  have others : ∀ k, k ≠ h → (s.curves.change h fun q => q.replace c).at? k = s.curves.at? k := fun k hk => by
    simp [Table.at?_change, hk.symm]
  exact {
    link := staled.link
    refs := fun i => by
      have i := staled.refs i
      refine i.ofCurves (Table.wf_change _ _ _ _ i.tables.curves) (fun j hj _ => ?_) fun j r hj => ?_
      · rw [Table.at?_change]
        split
        · rwa [Option.isSome_map]
        · exact hj
      · rw [Table.at?_change] at hj
        split at hj
        · obtain ⟨r', hr, rfl⟩ := Option.map_eq_some_iff.1 hj
          exact i.curveCounts j r' hr
        · exact i.curveCounts j r hj
    run := fun i => RunInv.of_run (s := s.staleByCurve h) rfl rfl rfl .inl (staled.run i)
    result := fun i => ResultInv.of_eq (s := s.staleByCurve h) rfl (fun _ => id) (staled.result i)
    revision := fun r f i => by
      have kept := staled.revision r f i
      refine ⟨fun k p q v hk hq fresh hv => ?_, fun w v hw hv => ?_⟩
      · refine (State.revisionOf_other (s := s.staleByCurve h) others fun named => ?_).trans (kept.results k p q v hk hq fresh hv)
        obtain ⟨p', -, rfl⟩ := Option.map_eq_some_iff.1 ((Table.at?_changeAll _ _ _).symm.trans hk)
        split at hq
        · obtain ⟨q', -, rfl⟩ := Option.map_eq_some_iff.1 hq
          cases fresh
        · rename_i other
          rw [if_neg other] at named
          exact other named
      · obtain ⟨j, p, ha, hv⟩ := kept.working w v hw hv
        refine ⟨j, p, ha, (State.revisionOf_other (s := s.staleByCurve h) others fun named => ?_).trans hv⟩
        have status := (staled.run r).status_of_active ha
        obtain ⟨p', hp, rfl⟩ := Option.map_eq_some_iff.1
          ((Table.at?_changeAll _ _ _).symm.trans ((State.activePoint_eq_some _ j p).1 ha).2)
        have free : p'.content.curve? ≠ some h ∨ p'.status ≠ .active := by
          have := Table.mem_of_at? _ _ _ hp
          have := (List.any_eq_false.1 unused) _ this
          simpa [imp_iff_not_or] using this
        split at named <;> rename_i uses
        · rw [if_pos uses] at status
          exact free.elim (absurd uses) (absurd status)
        · exact uses named }

end Keeps

end Sys2Proof.Machine

/-! Every command keeps every invariant, and every command but LEVEL_STEP and DEVICE_RESET keeps the level. -/

namespace Sys2Proof.Machine

namespace Keeps
variable {s : State}

/-! ## Requests of the Plan Store -/

/-- A request on a record keeps the invariants where its action on the present record does. -/
theorem onRecord {α : Type} (t : Table α) (size h : Nat) {act : α → State}
    (kept : ∀ r, 1 ≤ h → h ≤ size → t.at? h = some r → Keeps s (act r)) : Keeps s (s.onRecord t size h act) := by
  rcases s.onRecord_cases t size h act with ⟨-, e⟩ | ⟨-, -, -, e⟩ | ⟨h1, h2, r, hr, e⟩ <;> rw [e]
  · exact refuse s _
  · exact refuse s _
  · exact kept r h1 h2 hr

theorem pointNew (edit : Nat) (content : RawPoint) (s u : State) (h : execPointNew edit content s = .next u) :
    Keeps s u := by
  unfold execPointNew at h
  cases h
  split
  · exact refuse s _
  · split
    · exact refuse s _
    · rename_i c checked
      split
      · exact refuse s _
      · rename_i free
        split
        · exact refuse s _
        · rename_i k lowest
          obtain ⟨first, last, absent, -⟩ := Table.lowestAbsent_spec _ _ _ lowest
          exact (newPoint checked (by simpa using free) first last absent _).trans (accept _ _)

theorem pointSet (handle : Nat) (content : RawPoint) (s u : State) (h : execPointSet handle content s = .next u) :
    Keeps s u := by
  unfold execPointSet at h
  cases h
  refine onRecord _ _ _ fun p _ _ present => ?_
  split
  · exact refuse s _
  · split
    · exact refuse s _
    · rename_i idle
      split
      · exact refuse s _
      · rename_i c checked
        split
        · exact refuse s _
        · rename_i free
          exact (setPoint checked present (by simpa using idle) (by simpa using free)).trans (accept _ _)

theorem pointDrop (handle : Nat) (s u : State) (h : execPointDrop handle s = .next u) : Keeps s u := by
  unfold execPointDrop at h
  cases h
  refine onRecord _ _ _ fun p _ _ present => ?_
  split
  · exact refuse s _
  · split
    · exact refuse s _
    · rename_i idle
      exact (dropPoint present (by simpa using idle)).trans (accept _ _)

theorem stateNew (edit : Nat) (content : RawState) (s u : State) (h : execStateNew edit content s = .next u) :
    Keeps s u := by
  unfold execStateNew at h
  cases h
  split
  · exact refuse s _
  · exact (createState (by assumption)).trans (accept _ _)

theorem stateLoad (count : Nat) (entries : List (Nat × RawState)) (s u : State)
    (h : execStateLoad count entries s = .next u) : Keeps s u := by
  unfold execStateLoad at h
  cases h
  split
  · exact refuse s _
  · have loaded := loadStates s (entries.take count)
    dsimp only
    split
    · exact loaded.trans (accept _ _)
    · exact loaded.trans (refuse _ _)
    · exact loaded.trans (respond _ _ _)

theorem stateSet (handle : Nat) (content : RawState) (s u : State) (h : execStateSet handle content s = .next u) :
    Keeps s u := by
  unfold execStateSet at h
  cases h
  refine onRecord _ _ _ fun r _ _ _ => ?_
  split
  · exact refuse s _
  · split
    · exact refuse s _
    · split
      · exact refuse s _
      · exact ((setState s handle _).trans (staleByState _ handle)).trans (accept _ _)

theorem stateDrop (handle : Nat) (s u : State) (h : execStateDrop handle s = .next u) : Keeps s u := by
  unfold execStateDrop at h
  cases h
  refine onRecord _ _ _ fun r _ _ present => ?_
  split
  · exact refuse s _
  · split
    · exact refuse s _
    · exact (dropState present (by omega)).trans (accept _ _)

theorem curveNew (edit : Nat) (content : RawCurve) (s u : State) (h : execCurveNew edit content s = .next u) :
    Keeps s u := by
  unfold execCurveNew at h
  cases h
  split
  · exact refuse s _
  · split
    · exact refuse s _
    · split
      · exact refuse s _
      · rename_i k lowest
        obtain ⟨first, last, absent, -⟩ := Table.lowestAbsent_spec _ _ _ lowest
        exact (newCurve first last absent _ _).trans (accept _ _)

theorem curveSet (handle : Nat) (content : RawCurve) (s u : State) (h : execCurveSet handle content s = .next u) :
    Keeps s u := by
  unfold execCurveSet at h
  cases h
  refine onRecord _ _ _ fun k _ _ _ => ?_
  split
  · exact refuse s _
  · split
    · exact refuse s _
    · rename_i unused
      split
      · exact refuse s _
      · exact (setCurve s _ (by simpa using unused)).trans (accept _ _)

theorem curveDrop (handle : Nat) (s u : State) (h : execCurveDrop handle s = .next u) : Keeps s u := by
  unfold execCurveDrop at h
  cases h
  refine onRecord _ _ _ fun k _ _ present => ?_
  split
  · exact refuse s _
  · split
    · exact refuse s _
    · exact (dropCurve present (by omega)).trans (accept _ _)

theorem resultGet (handle : Nat) (s u : State) (h : execResultGet handle s = .next u) : Keeps s u := by
  unfold execResultGet at h
  cases h
  refine onRecord _ _ _ fun p _ _ _ => ?_
  split
  · exact refuse s _
  · exact (mark s handle (f := TestPoint.markRead) (fun _ => rfl) (fun _ => rfl) (fun _ => rfl) markRead).trans (accept _ _)

theorem resultDrop (handle : Nat) (s u : State) (h : execResultDrop handle s = .next u) : Keeps s u := by
  unfold execResultDrop at h
  cases h
  refine onRecord _ _ _ fun p _ _ _ => ?_
  split
  · exact refuse s _
  · split
    · exact refuse s _
    · exact (mark s handle (f := fun q => { q with result := none }) (fun _ => rfl) (fun _ => rfl) (fun _ => rfl)
        fun _ _ e => nomatch e).trans (accept _ _)

/-! ## Requests of the Run Controller -/

theorem queueAdd (handle : Nat) (s u : State) (h : execQueueAdd handle s = .next u) : Keeps s u := by
  unfold execQueueAdd at h
  cases h
  exact enqueue s handle _ (List.perm_append_singleton _ _) rfl fun i => markedFirst_append i.queue.markedFirst rfl

theorem queueFirst (handle : Nat) (s u : State) (h : execQueueFirst handle s = .next u) : Keeps s u := by
  unfold execQueueFirst at h
  cases h
  exact enqueue s handle _ (insertAfterMarked_perm _ _) rfl fun i =>
    markedFirst_insertAfterMarked i.queue.markedFirst _

/-- A waiting test point leaves the queue for IDLE with no context; a new result of it is consistent and carries no
revision (R44, R145). -/
theorem unqueue {h : Nat} {p : TestPoint} {f : TestPoint → TestPoint} (present : s.points.at? h = some p)
    (waiting : p.status = .queued ∨ p.status = .suspended) (content : ∀ q, (f q).content = q.content)
    (status : (f p).status = .idle) (context : p.searchInv → (f p).context = none)
    (result : (∀ r, p.result = some r → r.inv) → ∀ r, (f p).result = some r → r.inv)
    (revision : ∀ r, (f p).result = some r → p.result = some r ∨ r.revision = none) :
    Keeps s ((s.unqueue h).changePoint h f) := by
  have here : (s.points.change h f).at? h = some (f p) := by simp [Table.at?_change, present]
  have others : ∀ k, k ≠ h → (s.points.change h f).at? k = s.points.at? k := fun k hk => by
    simp [Table.at?_change, hk.symm]
  exact {
    refs := fun i => i.of_contents (Table.change_through _ _ content) rfl rfl
    run := fun i => by
      have left : ∀ e, e ∈ (s.run.queue.filter fun e => e.handle ≠ h) ↔ e ∈ s.run.queue ∧ e.handle ≠ h := by simp
      have inactive : s.run.active ≠ some h := fun named => by
        obtain ⟨q, hq, active⟩ := (i.queue.active h).1 named
        cases present.symm.trans hq
        rcases waiting with w | w <;> simp [w] at active
      refine i.update here others ((List.length_filter_le _ _).trans i.queue.room)
        (i.queue.distinct.sublist (List.filter_sublist.map _)) (markedFirst_sublist List.filter_sublist i.queue.markedFirst)
        ?_ ?_ (fun _ _ => Iff.rfl) ?_ i.queue.idle ?_
      · intro k hk
        refine exists_congr fun e => ?_
        simp only [State.changePoint, State.unqueue, left]
        constructor
        · rintro ⟨⟨he, -⟩, handle⟩
          exact ⟨he, handle⟩
        · rintro ⟨he, handle⟩
          exact ⟨⟨he, handle ▸ hk⟩, handle⟩
      · simp only [State.changePoint, State.unqueue, left]
        constructor
        · rintro ⟨e, ⟨-, other⟩, handle⟩
          exact absurd handle other
        · rintro ⟨q, ⟨rfl⟩, w⟩
          simp [status] at w
      · constructor
        · intro named
          exact absurd named inactive
        · rintro ⟨q, ⟨rfl⟩, active⟩
          simp [status] at active
      · rintro q ⟨rfl⟩
        have search := i.searches h p present
        exact (TestPoint.searchInv_waiting (.inl status)).2
          ⟨context search, fun params kind => search.valid (by rw [← content]; exact kind)⟩
    result := fun i => i.update here others
      (fun q r hq hr => by
        cases hq
        exact result (fun r hr => i.results h p r present hr) r hr) (fun _ => id)
    revision := fun r _ i => i.update here others (fun _ _ => id)
      (fun q k v hq hk fresh hv => by
        cases hq
        rcases revision k hk with kept | none
        · rw [show s.revisionOf (f p) = s.revisionOf p by simp only [State.revisionOf, content]]
          exact i.results h p k v present kept fresh hv
        · simp [none] at hv)
      (fun w v hw hv => by
        obtain ⟨j, q, ha, hv⟩ := i.working w v hw hv
        have active := r.status_of_active ha
        obtain ⟨named, there⟩ := (s.activePoint_eq_some j q).1 ha
        refine ⟨j, q, (State.activePoint_eq_some _ _ _).2 ⟨named, (others j ?_).trans there⟩, hv⟩
        rintro rfl
        cases present.symm.trans there
        rcases waiting with w | w <;> simp [w] at active) }

/-- An ABORTED result on a SUSPENDED search is consistent and carries no revision (R145). -/
theorem abortSuspended_spec (reason : AbortReason) (p : TestPoint) :
    (p.abortSuspended reason).content = p.content ∧ (p.abortSuspended reason).status = .idle ∧
    (p.abortSuspended reason).context = none ∧
    ((∀ r, p.result = some r → r.inv) → ∀ r, (p.abortSuspended reason).result = some r → r.inv) ∧
    ∀ r, (p.abortSuspended reason).result = some r → r.revision = none := by
  unfold TestPoint.abortSuspended
  split
  · exact ⟨rfl, rfl, rfl, TestPoint.post_result_inv (searchAbort_inv _ _), fun r hr => by cases hr; rfl⟩
  · exact ⟨rfl, rfl, rfl, TestPoint.post_result_inv (bareAbort_inv _), fun r hr => by cases hr; rfl⟩

theorem queueRemove (handle : Nat) (s u : State) (h : execQueueRemove handle s = .next u) : Keeps s u := by
  unfold execQueueRemove at h
  cases h
  split
  · exact refuse s _
  · split
    · exact refuse s _
    · rename_i p present
      split
      · rename_i queued
        refine (unqueue (f := fun q => { q with status := .idle }) present (.inl queued) (fun _ => rfl) rfl (fun search => ?_) (fun kept => kept)
          fun r hr => .inl hr).trans (accept _ _)
        exact ((TestPoint.searchInv_waiting (.inr queued)).1 search).1
      · rename_i suspended
        obtain ⟨-, status, context, result, revision⟩ := abortSuspended_spec .removed p
        exact (unqueue present (.inr suspended) (fun q => (abortSuspended_spec .removed q).1) status (fun _ => context)
          result fun r hr => .inr (revision r hr)).trans (accept _ _)
      · exact refuse s _
      · exact refuse s _

theorem runSetup (a b c : Nat) (s u : State) (h : execRunSetup a b c s = .next u) : Keeps s u := by
  unfold execRunSetup at h
  cases h
  split
  · exact refuse s _
  · exact (setup s _).trans (accept _ _)

theorem runHold (s u : State) (h : execRunHold s = .next u) : Keeps s u := by
  cases h
  exact (hold s true).trans (accept _ _)

theorem runRelease (s u : State) (h : execRunRelease s = .next u) : Keeps s u := by
  unfold execRunRelease at h
  cases h
  split
  · exact ((hold s false).trans (released _)).trans (accept _ _)
  · exact accept s _

theorem shotAbort (instant : Tick) (s u : State) (h : execShotAbort instant s = .next u) : Keeps s u := by
  unfold execShotAbort at h
  cases h
  refine (atInstant s (Tick.instantAtOrAfter instant)).trans ?_
  split
  · exact refuse _ _
  · exact (abortActive _ _ _).trans (accept _ _)

/-- What run reset does to a test point that is not ACTIVE (R64, R145). -/
theorem runReset_spec (p : TestPoint) :
    p.runReset.content = p.content ∧ p.runReset.status = .idle ∧ p.runReset.context = none ∧
    ((∀ r, p.result = some r → r.inv) → ∀ r, p.runReset.result = some r → r.inv) ∧
    ∀ r, p.runReset.result = some r → p.result = some r ∨ r.revision = none := by
  unfold TestPoint.runReset
  split
  · obtain ⟨content, status, context, result, revision⟩ := abortSuspended_spec .runReset p
    exact ⟨content, status, context, result, fun r hr => .inr (revision r hr)⟩
  · exact ⟨rfl, rfl, rfl, id, fun r hr => .inl hr⟩

/-- The end of a run reset: with the outputs at rest and no test point ACTIVE, every test point is IDLE (R64). -/
theorem resetRun (rest : AtRest s) (pending : NothingPending s) (free : s.activePoint = none) :
    Keeps s { s with points := s.points.changeAll fun _ p => p.runReset
                     run := { s.run with queue := [], state := .idle, active := none, hold := false } } := by
  have back : ∀ {k q}, (s.points.changeAll fun _ p => p.runReset).at? k = some q →
      ∃ p, s.points.at? k = some p ∧ p.runReset = q :=
    fun hk => Option.map_eq_some_iff.1 ((Table.at?_changeAll _ _ _).symm.trans hk)
  have idle : ∀ {k q}, (s.points.changeAll fun _ p => p.runReset).at? k = some q → q.status = .idle := fun hk => by
    obtain ⟨p, -, rfl⟩ := back hk
    exact (runReset_spec p).2.1
  exact {
    unit := fun i => UnitInv.of_eq (s := s.setRun .idle) rfl rfl rfl rfl rfl
      (i.setRun (fun _ => .inr rest) fun _ => .inr pending)
    refs := fun i => i.of_contents (Table.changeAll_through _ fun _ p => (runReset_spec p).1) rfl rfl
    run := fun i => by
      refine ⟨⟨Nat.zero_le _, List.nodup_nil, rfl, fun k => ?_, fun k => ?_, fun _ => rfl⟩, fun k q hk => ?_⟩
      · constructor
        · rintro ⟨e, he, -⟩
          cases he
        · rintro ⟨q, hq, status⟩
          simp [idle hq] at status
      · constructor
        · intro named
          cases named
        · rintro ⟨q, hq, status⟩
          simp [idle hq] at status
      · obtain ⟨p, hp, rfl⟩ := back hk
        obtain ⟨content, status, context, -⟩ := runReset_spec p
        exact (TestPoint.searchInv_waiting (.inl status)).2
          ⟨context, fun params kind => (i.searches k p hp).valid (by rw [← content]; exact kind)⟩
    result := fun i => by
      refine ⟨fun k q r hq hr => ?_, i.working⟩
      obtain ⟨p, hp, rfl⟩ := back hq
      obtain ⟨-, -, -, result, -⟩ := runReset_spec p
      exact result (fun r hr => i.results k p r hp hr) r hr
    revision := fun _ _ i => by
      refine ⟨fun k q r v hq hr fresh hv => ?_, fun w v hw hv => (i.no_working free hw hv).elim⟩
      obtain ⟨p, hp, rfl⟩ := back hq
      obtain ⟨content, -, -, -, revision⟩ := runReset_spec p
      rcases revision r hr with kept | none
      · have := i.results k p r v hp kept fresh hv
        simpa only [State.revisionOf, content] using this
      · simp [none] at hv }

theorem runReset (instant : Tick) (s u : State) (h : execRunReset instant s = .next u) : Keeps s u := by
  unfold execRunReset at h
  cases h
  have rested : ∀ {a : State}, Keeps (s.atInstant (Tick.instantAtOrAfter instant)) a → a.activePoint = none → Keeps s
      ((State.raiseQueueEmpty { a.toRest.applyPending with
        points := a.toRest.applyPending.points.changeAll fun _ p => p.runReset
        run := { a.toRest.applyPending.run with queue := [], state := .idle, active := none, hold := false } }).accept
          []) := fun {a} kept free =>
    (((((atInstant s _).trans kept).trans (toRest a)).trans (applyPending a.toRest_atRest)).trans
      (resetRun (State.applyPending_atRest a.toRest_atRest) (State.applyPending_nothingPending _) free)).trans
        ((raiseQueueEmpty _).trans (accept _ _))
  dsimp only
  split
  · rename_i h p ha
    refine rested (abortCore ha _ _) ?_
    simp [State.activePoint]
  · rename_i none
    exact rested (refl _) none

/-! ## Requests of the channels, the inputs, the binary outputs and the Timebase -/

theorem onChannel (number : Nat) {act : Chan → State} (kept : ∀ c, Keeps s (act c)) : Keeps s (s.onChannel number act) := by
  rcases s.onChannel_cases number act with ⟨-, e⟩ | ⟨c, -, e⟩ <;> rw [e]
  · exact refuse s _
  · exact kept c

theorem onInput (number : Nat) {act : Inp → State} (kept : ∀ n, Keeps s (act n)) : Keeps s (s.onInput number act) := by
  rcases s.onInput_cases number act with ⟨-, e⟩ | ⟨n, -, e⟩ <;> rw [e]
  · exact refuse s _
  · exact kept n

theorem chanSet (number : Nat) (config : RawChannelConfig) (s u : State) (h : execChanSet number config s = .next u) :
    Keeps s u := by
  unfold execChanSet at h
  cases h
  refine onChannel number fun c => ?_
  split
  · exact refuse s _
  · rename_i k checked
    have valid := ChannelConfig.valid_of_check checked
    split
    · rename_i playing
      refine Keeps.trans (channel c (fun i => ?_) fun _ none => ⟨none, rfl, rfl⟩) (accept _ _)
      exact { i.channels c with pending := fun p hp => by cases hp; exact ⟨playing, valid⟩ }
    · rename_i still
      have still : s.run.state.isPlaying = false := by simpa using still
      refine Keeps.trans (channel c (fun i => ?_) fun _ none => ⟨none, rfl, rfl⟩)
        ((raiseChannelIf _ _).trans (accept _ _))
      obtain ⟨-, -, -, -, -, zero⟩ := (i.atRest (RunState.stateInPlay_of_not_playing still)).channels c
      exact (i.channels c).configure valid zero

theorem chanUnmute (number : Nat) (s u : State) (h : execChanUnmute number s = .next u) : Keeps s u := by
  unfold execChanUnmute at h
  cases h
  refine onChannel number fun c => ?_
  split
  · exact refuse s _
  · exact Keeps.trans (channel c (fun i => { i.channels c with }) fun _ none => ⟨none, rfl, rfl⟩)
      ((raiseChannelIf _ _).trans (accept _ _))

theorem chanService (number : Nat) (s u : State) (h : execChanService number s = .next u) : Keeps s u := by
  unfold execChanService at h
  cases h
  refine onChannel number fun c => ?_
  split
  · exact refuse s _
  · exact Keeps.trans (channel c (fun i => (i.channels c).service) fun _ none => ⟨none, rfl, rfl⟩)
      ((raiseChannelIf _ _).trans (accept _ _))

/-- One input record changes within its range. -/
theorem setInput (n : Inp) {f : Input → Input}
    (kept : (s.inputs.get n).inv s.run.state.isPlaying → (f (s.inputs.get n)).inv s.run.state.isPlaying) :
    Keeps s (s.setInput n f) :=
  inputs fun m h => by
    rw [PerInput.get_update]
    split
    · rename_i same
      subst same
      exact kept h
    · exact h

theorem inputSet (number : Nat) (config : RawInputConfig) (s u : State) (h : execInputSet number config s = .next u) :
    Keeps s u := by
  unfold execInputSet at h
  cases h
  refine onInput number fun n => ?_
  split
  · exact refuse s _
  · rename_i k checked
    have valid := InputConfig.valid_of_check checked
    split
    · rename_i playing
      exact (setInput n fun i => { i with pending := fun p hp => by cases hp; exact ⟨playing, valid⟩ }).trans (accept _ _)
    · exact (setInput n fun i => i.configure valid).trans (accept _ _)

theorem outputIdleSet (mask : Nat) (s u : State) (h : execOutputIdleSet mask s = .next u) : Keeps s u := by
  unfold execOutputIdleSet at h
  cases h
  split
  · exact refuse s _
  · refine Keeps.trans (units fun i => ?_) (accept _ _)
    refine ⟨fun still => ?_, i.channels, i.inputs⟩
    obtain ⟨none, -, atRest⟩ := i.rest still
    rw [if_pos none]
    exact ⟨none, rfl, atRest⟩

theorem timeSet (a b c : Nat) (s u : State) (h : execTimeSet a b c s = .next u) : Keeps s u := by
  unfold execTimeSet at h
  cases h
  split
  · rename_i range
    exact (setTimebase (fun i => i.configure s.tick range) _ _ _).trans (accept _ _)
  · exact refuse s _

theorem timeGet (s u : State) (h : execTimeGet s = .next u) : Keeps s u := by
  cases h
  exact (ofTime (b := { s.time with timeStep := false }) fun i => { i with lock := i.lock }).trans (accept _ _)

/-! ## Events -/

/-- An event keeps the invariants where its effect does. -/
theorem happen (t : Tick) {condition : State → Bool} {effect : State → State} (kept : ∀ k, Keeps k (effect k)) :
    Keeps s (s.happen t condition effect) := by
  rcases s.happen_cases t condition effect with ⟨-, e⟩ | ⟨-, e⟩ <;> rw [e]
  · exact (advanceTo s t).trans (kept _)
  · exact advanceTo s t

theorem onInstant (t : Tick) {condition : State → Bool} {effect : State → State}
    (kept : ∀ k, k.run = s.run → condition (s.advanceTo t) = true → Keeps k (effect k)) :
    Keeps s (s.onInstant t condition effect) := by
  rcases s.onInstant_cases t condition effect with ⟨-, due, e⟩ | e <;> rw [e]
  · exact (atInstant s t).trans (kept _ (s.atInstant_run t) due)
  · exact advanceTo s t

theorem withActive {act : Nat → TestPoint → State} (kept : ∀ h p, s.activePoint = some (h, p) → Keeps s (act h p)) :
    Keeps s (s.withActive act) := by
  unfold State.withActive
  split
  · exact refl s
  · exact kept _ _ (by assumption)

theorem amplifierFaultAssertion (t : Tick) (c : Chan) (s u : State)
    (h : execAmplifierFaultAssertion t c s = .next u) : Keeps s u := by
  unfold execAmplifierFaultAssertion at h
  cases h
  refine happen t fun k => ?_
  have muted : Keeps k { k with channels := k.channels.update c (Channel.assertFault t) } :=
    channel c (fun i => (i.channels c).assertFault t) fun _ none => ⟨none, rfl, rfl⟩
  exact (muted.trans (reportFault _ t)).trans (raiseChannelIf _ true)

theorem faultLineDeassertion (t : Tick) (c : Chan) (s u : State) (h : execFaultLineDeassertion t c s = .next u) :
    Keeps s u := by
  unfold execFaultLineDeassertion at h
  cases h
  exact happen t fun k => channel c (fun i => { i.channels c with }) fun _ none => ⟨none, rfl, rfl⟩

theorem generatorInstant (t : Tick) (feedback : PerChannel (BitVec 16)) (s u : State)
    (h : execGeneratorInstant t feedback s = .next u) : Keeps s u := by
  unfold execGeneratorInstant at h
  cases h
  split
  · exact ((atInstant s t).trans (deliver _)).trans (feedAll _ t feedback)
  · exact advanceTo s t

/-- The clearing at a start (R54, R78, R102, R115). -/
theorem clearForShot (s : State) (due : StartDue) (t : Tick) : Keeps s (s.clearForShot due t) := by
  have entries : Keeps s { s with inputs := s.inputs.map fun i => { i with entry := clearedEntry i.qualification t } } :=
    inputs fun n i => by
      rw [PerInput.get_map]
      exact i.cleared t
  refine entries.trans ?_
  have emptied : ∀ k : State, Keeps k { k with
      shot := { ShotRecord.empty with started := t, startConditions := due.conditions } } := fun k => shot (.inr rfl)
  unfold State.clearForShot
  dsimp only
  split
  · exact (emptied _).trans (zero _ t)
  · exact emptied _

theorem enterFirst {h : Nat} {p : TestPoint} (ha : s.activePoint = some (h, p)) (playing : s.run.state.isPlaying = true)
    (waiting : s.run.state.stateInPlay = false) (due : StartDue) (t : Tick) : Keeps s (s.enterFirst p due t) := by
  unfold State.enterFirst
  split
  · split
    · exact enterPosition ha playing 1 t
    · exact (tuneTo s _).trans (setStage fun _ => waiting)
  · exact enterPosition ha playing 1 t

theorem shotStart (t : Tick) (s u : State) (h : execShotStart t s = .next u) : Keeps s u := by
  unfold execShotStart at h
  cases h
  refine onInstant t fun k run due => withActive fun h p ha => ?_
  have waiting : k.run.state.stateInPlay = false := by
    simp only [State.startDue, State.advanceTo_run, ← run, decide_eq_true_eq] at due
    cases hr : k.run.state with
    | playing play =>
      rw [hr] at due
      cases hg : play.stage <;> simp [hg, RunState.stateInPlay] at due ⊢
    | _ => rfl
  have started : ∃ play : Play, k.run.state.play (.ready t) = .playing play ∧ play.stage = .ready t := by
    unfold RunState.play
    split <;> exact ⟨_, rfl, rfl⟩
  obtain ⟨play, hplay, ready⟩ := started
  refine ((clearForShot k (k.startDue t) t).trans (setRun (r := k.run.state.play (.ready t)) ?_ (fun _ => .inl waiting)
    ?_)).trans (enterFirst
    (s := (k.clearForShot (k.startDue t) t).setRun (k.run.state.play (.ready t))) (h := h) ha ?_ ?_ _ t)
  · rw [hplay]
    exact fun e => nomatch e
  · rw [hplay]
    exact fun e => nomatch e
  · rw [hplay]
    rfl
  · rw [hplay]
    simp [State.setRun, RunState.stateInPlay, ready]

theorem endInPlay (s : State) (t : Tick) : Keeps s (s.endInPlay t) := by
  unfold State.endInPlay
  split
  · rename_i position entry inPlay
    refine withActive fun h p ha => endState ha ?_ position t
    unfold RunState.inPlay? at inPlay
    split at inPlay
    · rename_i play hr
      rw [hr]
      rfl
    · cases inPlay
  · exact refl s

theorem incept (s : State) (t : Tick) : Keeps s (s.incept t) := by
  unfold State.incept
  split
  · rename_i position h p deferred ha
    split
    · split
      · refine (handNotes s t).trans (enterPosition (s := s.handNotes t) ha ?_ position t)
        unfold RunState.deferred? at deferred
        split at deferred
        · rename_i play hr
          rw [State.handNotes_run, hr]
          rfl
        · cases deferred
      · exact refl s
    · exact refl s
  · exact refl s

theorem restEnds (s : State) (t : Tick) : Keeps s (s.restEnds t) := by
  unfold State.restEnds
  split
  · rename_i since interval ended fault resting
    exact endRest s since interval fault t (by rw [resting]; rfl)
  · exact refl s

/-! ## Transactions -/

theorem send (bytes : List Byte) (s u : State) (h : execSend bytes s = .next u) : Keeps s u := by
  have room : (bytes.take Config.bufferBytes).length ≤ Config.bufferBytes := by simp
  unfold execSend at h
  dsimp only at h
  split at h
  · rename_i ready
    have stored : Keeps s { s with port := { s.port with
        request := bytes.take Config.bufferBytes
        shifted := shiftedOut (bytes.length + 1) s.port.link [] } } := port fun i => by
      refine ⟨room, ?_⟩
      have := i.2
      simpa only [ready] using this
    split at h
    · cases h
      exact stored.trans (port id)
    · cases h
      exact stored.trans ((refuse _ .frameError).trans (port id))
    · cases h
      refine stored.trans ?_
      unfold State.dispatch
      split
      · exact refuse _ _
      · exact refuse _ _
      · refine port fun i => ⟨room, ?_, rfl⟩
        have := i.2
        simp only [ready] at this
        exact this.1
  · cases h
    exact port id

theorem fetch (clocked : Nat) (s u : State) (h : execFetch clocked s = .next u) : Keeps s u := by
  unfold execFetch at h
  split at h
  · cases h
    exact refl s
  · dsimp only at h
    split at h
    · rename_i answer
      have shifted : Keeps s { s with port := { s.port with
          shifted := shiftedOut clocked s.port.link s.port.response } } := port id
      split at h
      · cases h
        refine shifted.trans (port fun i => ⟨i.1, rfl, ?_⟩)
        have := i.2
        simp only [answer] at this
        exact this.1
      · cases h
        exact shifted
    · cases h
      exact port id

theorem status (clocked : Nat) (s u : State) (h : execStatus clocked s = .next u) : Keeps s u := by
  unfold execStatus at h
  split at h
  · cases h
    exact refl s
  · cases h
    split
    · exact port id
    · exact port id

theorem unknownKind (first : Byte) (following : Nat) (s u : State) (h : execUnknownKind first following s = .next u) :
    Keeps s u := by
  unfold execUnknownKind at h
  split at h
  · cases h
    exact refl s
  · cases h
    exact port id

end Keeps

end Sys2Proof.Machine

/-! Every command and every step: the invariants' statements and the rule of the link authority level. -/

namespace Sys2Proof.Machine

/-- Every command but DEVICE_RESET and LEVEL_STEP keeps the level and every invariant. -/
theorem exec_keeps {c : Instr} {s u : State} (h : exec c s = .next u) (noReset : ∀ found, c ≠ .deviceReset found)
    (noStep : ∀ l, c ≠ .levelStep l) : Keeps s u := by
  cases c with
  | deviceReset found => exact absurd rfl (noReset found)
  | levelStep l => exact absurd rfl (noStep l)
  | send bytes => exact Keeps.send bytes s u h
  | fetch clocked => exact Keeps.fetch clocked s u h
  | status clocked => exact Keeps.status clocked s u h
  | unknownKind first following => exact Keeps.unknownKind first following s u h
  | pointNew edit content => exact Keeps.pointNew edit content s u h
  | pointSet handle content => exact Keeps.pointSet handle content s u h
  | pointGet handle => cases h; exact Keeps.onRecord _ _ _ fun _ _ _ _ => Keeps.accept s _
  | pointFind tag =>
    cases h
    split
    · exact Keeps.refuse s _
    · split
      · exact Keeps.refuse s _
      · exact Keeps.accept s _
  | pointList => cases h; exact Keeps.accept s _
  | pointDrop handle => exact Keeps.pointDrop handle s u h
  | stateNew edit content => exact Keeps.stateNew edit content s u h
  | stateLoad count entries => exact Keeps.stateLoad count entries s u h
  | stateSet handle content => exact Keeps.stateSet handle content s u h
  | stateGet handle => cases h; exact Keeps.onRecord _ _ _ fun _ _ _ _ => Keeps.accept s _
  | stateDrop handle => exact Keeps.stateDrop handle s u h
  | curveNew edit content => exact Keeps.curveNew edit content s u h
  | curveSet handle content => exact Keeps.curveSet handle content s u h
  | curveGet handle => cases h; exact Keeps.onRecord _ _ _ fun _ _ _ _ => Keeps.accept s _
  | curveDrop handle => exact Keeps.curveDrop handle s u h
  | resultGet handle => exact Keeps.resultGet handle s u h
  | resultDrop handle => exact Keeps.resultDrop handle s u h
  | queueAdd handle => exact Keeps.queueAdd handle s u h
  | queueFirst handle => exact Keeps.queueFirst handle s u h
  | queueRemove handle => exact Keeps.queueRemove handle s u h
  | queueGet => cases h; exact Keeps.accept s _
  | runSetup a b c => exact Keeps.runSetup a b c s u h
  | runHold => exact Keeps.runHold s u h
  | runRelease => exact Keeps.runRelease s u h
  | shotAbort t => exact Keeps.shotAbort t s u h
  | runReset t => exact Keeps.runReset t s u h
  | chanSet number config => exact Keeps.chanSet number config s u h
  | chanGet number => cases h; exact Keeps.onChannel number fun _ => Keeps.accept s _
  | chanUnmute number => exact Keeps.chanUnmute number s u h
  | chanService number => exact Keeps.chanService number s u h
  | inputSet number config => exact Keeps.inputSet number config s u h
  | inputGet number => cases h; exact Keeps.onInput number fun _ => Keeps.accept s _
  | outputIdleSet mask => exact Keeps.outputIdleSet mask s u h
  | timeSet a b c => exact Keeps.timeSet a b c s u h
  | timeGet => exact Keeps.timeGet s u h
  | deviceInfo => cases h; exact Keeps.accept s _
  | sensedLevelChange t n closed volts => cases h; exact Keeps.happen t fun k => Keeps.sampleOne k t n _
  | operate t n => cases h; exact Keeps.happen t fun k => Keeps.sampleOne k t n true
  | release t n => cases h; exact Keeps.happen t fun k => Keeps.sampleOne k t n false
  | amplifierFaultAssertion t c => exact Keeps.amplifierFaultAssertion t c s u h
  | faultLineDeassertion t c => exact Keeps.faultLineDeassertion t c s u h
  | windowEstimate t c feedback => cases h; exact Keeps.happen t fun k => Keeps.feedChannel k t c feedback
  | shotStart t => exact Keeps.shotStart t s u h
  | stateDurationEnd t => cases h; exact Keeps.onInstant t fun k _ _ => Keeps.endInPlay k t
  | inputStateEnd t => cases h; exact Keeps.onInstant t fun k _ _ => Keeps.endInPlay k t
  | pointOnWaveInception t => cases h; exact Keeps.onInstant t fun k _ _ => Keeps.incept k t
  | resetWaitLimitExpiry t => cases h; exact Keeps.onInstant t fun k _ _ => Keeps.abortActive k _ t
  | restEnd t => cases h; exact Keeps.onInstant t fun k _ _ => Keeps.restEnds k t
  | amplifierAbort t => cases h; exact Keeps.onInstant t fun k _ _ => Keeps.abortActive k _ t
  | timeLostAbort t => cases h; exact Keeps.onInstant t fun k _ _ => Keeps.abortActive k _ t
  | pulse t =>
    cases h
    exact Keeps.happen t fun k => (Keeps.ofTime (b := k.time.readHigh t) fun i => { i with lock := i.lock }).trans
      (Keeps.pulse _ t)
  | acquisitionWindowCloses t => cases h; exact Keeps.happen t fun k => Keeps.setTimebase TimeInv.toFree _ _ t
  | missedEdge t => cases h; exact (Keeps.advanceTo s t).trans (Keeps.missEdge _ t)
  | predictedEdge t => cases h; exact (Keeps.advanceTo s t).trans (Keeps.predictEdge _ t)
  | holdoverLimitElapses t => cases h; exact Keeps.happen t fun k => Keeps.setTimebase TimeInv.loseHoldover _ _ t
  | timeMessage t characters =>
    cases h
    exact (Keeps.advanceTo s t).trans (Keeps.ofTime fun i => i.receives (Timebase.Receives.receive _ _ _))
  | generatorInstant t feedback => exact Keeps.generatorInstant t feedback s u h
  | inputSample t closed volts => cases h; exact Keeps.happen t fun k => Keeps.sampleAll k t closed volts
  | framingError t =>
    cases h
    exact (Keeps.advanceTo s t).trans (Keeps.ofTime fun i =>
      i.receives (by rw [State.advanceTo_time]; exact Timebase.Receives.abandonMessage _))
  | overlongMessage t =>
    cases h
    exact (Keeps.advanceTo s t).trans (Keeps.ofTime fun i =>
      i.receives (by rw [State.advanceTo_time]; exact Timebase.Receives.abandonMessage _))

/-! ## After device reset -/

theorem LinkInv.reset : LinkInv State.reset := ⟨Nat.zero_le _, rfl, rfl⟩

theorem ReferenceInv.reset : ReferenceInv State.reset :=
  ⟨⟨rfl, rfl, rfl, (fun _ _ _ _ e => nomatch e), fun _ _ e => nomatch e⟩, (fun _ _ _ e => nomatch e),
    (fun _ _ _ e => nomatch e), (fun _ _ e => nomatch e), fun _ _ e => nomatch e⟩

theorem RunInv.reset : RunInv State.reset := by
  refine ⟨⟨Nat.zero_le _, List.nodup_nil, rfl, fun k => ?_, fun k => ?_, fun _ => rfl⟩, fun _ _ e => nomatch e⟩ <;>
    simp [State.reset, RunController.reset]

theorem RevisionInv.reset : RevisionInv State.reset := ⟨(fun _ _ _ _ e => nomatch e), fun _ _ e => nomatch e⟩

theorem TimeInv.reset : TimeInv State.reset :=
  ⟨by decide, ⟨rfl, rfl, rfl, rfl⟩, Nat.zero_le _, (fun _ e => nomatch e), (fun _ e => nomatch e),
    (fun _ e => nomatch e), by decide⟩

theorem ResultInv.reset : ResultInv State.reset := ⟨(fun _ _ _ e => nomatch e), fun _ _ e => nomatch e⟩

/-- A channel record at its reset values, however its fault line was found (R81). -/
theorem Channel.inv.reset (c : Chan) (mute line playing : Bool) :
    ({ channelsReset.get c with mute := mute, faultLine := line } : Channel).inv c playing := by
  refine ⟨?_, ?_, ?_, ?_, ?_, ?_⟩
  · show (channelsReset.get c).config.valid c
    unfold ChannelConfig.valid
    cases c <;> decide
  all_goals cases c <;> simp [channelsReset, PerChannel.byKind, PerChannel.get, Channel.reset]

/-- The units after device reset, however the fault lines were found (R66, R75, R81, R95). -/
theorem UnitInv.deviceReset (found : FirstReading) (b : Timebase) (pending : List Instr) :
    UnitInv { State.reset with
      channels := PerChannel.of fun c =>
        { channelsReset.get c with mute := c.isIn found.faultLines, faultLine := c.isIn found.faultLines }
      time := b
      pending := pending } where
  rest _ := ⟨rfl, rfl, fun c => by cases c <;> exact ⟨rfl, rfl, rfl, rfl, rfl, rfl⟩⟩
  channels c := by
    rw [PerChannel.get_of]
    exact Channel.inv.reset c _ _ _
  inputs n := by
    have get : State.reset.inputs.get n = Input.reset := PerInput.get_of _ n
    show (State.reset.inputs.get n).inv _
    rw [get]
    exact ⟨⟨by decide, by decide, trivial⟩, (fun _ e => nomatch e), by decide, by decide, by decide⟩

theorem UnitInv.reset : UnitInv State.reset := by
  have := UnitInv.deviceReset { faultLines := 0, ppsHigh := false } Timebase.reset []
  have same : (PerChannel.of fun c => { channelsReset.get c with
      mute := c.isIn (0 : BitVec 8), faultLine := c.isIn (0 : BitVec 8) }) = channelsReset :=
    PerChannel.ext_get fun c => by cases c <;> rfl
  simp only at this
  rw [same] at this
  exact this

/-! ## Every step -/

/-- What DEVICE_RESET leaves (R176, R177). -/
theorem exec_deviceReset {found : FirstReading} {s u : State} (h : exec (.deviceReset found) s = .next u) :
    u = { State.reset with
      channels := PerChannel.of fun c =>
        { channelsReset.get c with mute := c.isIn found.faultLines, faultLine := c.isIn found.faultLines }
      time := { Timebase.reset with pps := { high := found.ppsHigh, readAt := 0 } }
      pending := s.pending } := by
  cases h
  rfl

/-- LEVEL_STEP refuses, or changes the level and answers (R3). -/
theorem exec_levelStep {level : Nat} {s u : State} (h : exec (.levelStep level) s = .next u) :
    Keeps s u ∨ level ≤ 2 ∧ s.level ≤ level ∧ Keeps { s with level := level } u := by
  have : execLevelStep level s = .next u := h
  unfold execLevelStep at this
  cases this
  split
  · exact .inl (Keeps.refuse s _)
  · split
    · exact .inl (Keeps.refuse s _)
    · exact .inr ⟨by omega, by omega, Keeps.accept _ _⟩

/-- A predicate that every command keeps, and that the waiting commands and the tick have no part in, every step
keeps. -/
theorem keptByStep_of_exec {inv : State → Prop} (exec_keeps : ∀ c s u, exec c s = .next u → inv s → inv u)
    (pending : ∀ s q, inv s → inv { s with pending := q }) (tick : ∀ s t, inv s → inv { s with tick := t }) :
    KeptByStep inv := by
  intro s u i h
  unfold step at h
  split at h
  · exact exec_keeps _ _ u h (pending s _ i)
  · split at h
    · exact exec_keeps _ _ u h i
    · cases h
      exact tick s _ i

/-- An invariant that operations keep, that reads no level and holds after device reset, every step keeps. -/
theorem keptByStep_of_keeps {inv : State → Prop} (keeps : ∀ {s u}, Keeps s u → inv s → inv u)
    (level : ∀ s l, inv s → inv { s with level := l })
    (reset : ∀ (found : FirstReading) pending, inv { State.reset with
      channels := PerChannel.of fun c =>
        { channelsReset.get c with mute := c.isIn found.faultLines, faultLine := c.isIn found.faultLines }
      time := { Timebase.reset with pps := { high := found.ppsHigh, readAt := 0 } }
      pending := pending }) : KeptByStep inv := by
  refine keptByStep_of_exec (fun c s u h i => ?_) (fun s q => keeps (Keeps.pending s q)) fun s t => keeps (Keeps.tick s t)
  by_cases hr : ∃ found, c = .deviceReset found
  · obtain ⟨found, rfl⟩ := hr
    rw [exec_deviceReset h]
    exact reset found s.pending
  · by_cases hl : ∃ l, c = .levelStep l
    · obtain ⟨l, rfl⟩ := hl
      rcases exec_levelStep h with k | ⟨-, -, k⟩
      · exact keeps k i
      · exact keeps k (level s l i)
    · exact keeps (exec_keeps h (fun found e => hr ⟨found, e⟩) fun l e => hl ⟨l, e⟩) i

/-! ## The statements -/

/-- Settles O54: every update of the port answers, dispatches or returns to READY whole. -/
theorem linkInvariantIsKept : Obligations.LinkInvariantIsKept :=
  keptByStep_of_keeps Keeps.link (fun _ _ => LinkInv.of_port rfl) fun _ _ => LinkInv.of_port rfl LinkInv.reset

/-- Settles O55: creates, sets and drops move a test point's references with its content, and every other operation
keeps the contents. -/
theorem referenceInvariantIsKept : Obligations.ReferenceInvariantIsKept :=
  keptByStep_of_keeps Keeps.refs (fun s _ => ReferenceInv.of_tables (s := s) rfl rfl rfl) fun _ _ =>
    ReferenceInv.of_tables (s := State.reset) rfl rfl rfl ReferenceInv.reset

/-- Settles O56: each placement, taking, posting and suspension moves a queue entry, a status and a context together. -/
theorem runInvariantIsKept : Obligations.RunInvariantIsKept :=
  keptByStep_of_keeps Keeps.run (fun s _ => RunInv.of_run (s := s) rfl rfl rfl .inl) fun _ _ =>
    RunInv.of_run (s := State.reset) rfl rfl rfl .inl RunInv.reset

/-- Settles O57: a posted result takes its revision from the working values, which inception read in force, and
CURVE_SET marks STALE what names the characteristic it replaces. -/
theorem revisionInvariantIsKept : Obligations.RevisionInvariantIsKept := by
  refine keptByStep_of_keeps (fun k ⟨run, refs, revision⟩ => ⟨k.run run, k.refs refs, k.revision run refs revision⟩)
    (fun s _ ⟨run, refs, revision⟩ => ?_) fun _ _ => ?_
  · exact ⟨RunInv.of_run (s := s) rfl rfl rfl .inl run, ReferenceInv.of_tables (s := s) rfl rfl rfl refs,
      RevisionInv.of_eq (s := s) rfl rfl rfl (fun _ => id) revision⟩
  · exact ⟨RunInv.of_run (s := State.reset) rfl rfl rfl .inl RunInv.reset,
      ReferenceInv.of_tables (s := State.reset) rfl rfl rfl ReferenceInv.reset,
      RevisionInv.of_eq (s := State.reset) rfl rfl rfl (fun _ => id) RevisionInv.reset⟩

/-- Settles O58: play ends through rest with the pending configurations applied, and each record operation keeps its
ranges. -/
theorem unitInvariantIsKept : Obligations.UnitInvariantIsKept :=
  keptByStep_of_keeps Keeps.unit (fun _ _ => UnitInv.of_eq rfl rfl rfl rfl rfl) fun found pending =>
    UnitInv.deviceReset found _ pending

/-- Settles O59: every second edge, loss of lock and new limit leaves the lock state what it holds. -/
theorem timeInvariantIsKept : Obligations.TimeInvariantIsKept :=
  keptByStep_of_keeps Keeps.time (fun _ _ => TimeInv.of_time rfl) fun _ _ =>
    { TimeInv.reset with lock := TimeInv.reset.lock }

/-- Settles O60: every result formed is consistent, a posting saturates its count, and inception forms bands around
their times. -/
theorem resultInvariantIsKept : Obligations.ResultInvariantIsKept :=
  keptByStep_of_keeps Keeps.result (fun s _ => ResultInv.of_eq (s := s) rfl fun _ => id) fun _ _ =>
    ResultInv.of_eq (s := State.reset) rfl (fun _ => id) ResultInv.reset

end Sys2Proof.Machine

/-! Requests on records: the order of their checks (R2), and the link authority level (R3). -/

namespace Sys2Proof.Machine

/-! ## The first failing check decides -/

section
variable {c : Instr} {s : State} {α : Type} {t : Table α} {size h : Nat} {act : α → State}

theorem refusedWith_of_refuse {u : State} {code : ResultCode} (run : exec c s = .next u) (e : u = s.refuse code) :
    RefusedWith c s code.code := run.trans (congrArg _ e)

/-- Check 1: the handle lies in the table's range. -/
theorem refusedWith_badHandle (out : h = 0 ∨ size < h) (run : exec c s = .next (s.onRecord t size h act)) :
    RefusedWith c s 0x20 :=
  refusedWith_of_refuse (code := .badHandle) run (if_pos out)

/-- Check 2: the record is present. -/
theorem refusedWith_absent (first : 1 ≤ h) (last : h ≤ size) (absent : t.at? h = none)
    (run : exec c s = .next (s.onRecord t size h act)) : RefusedWith c s 0x21 := by
  refine refusedWith_of_refuse (code := .absent) run ?_
  have inRange : ¬ (h = 0 ∨ size < h) := by omega
  simp [State.onRecord, inRange, absent]

/-- The later checks read the record found. -/
theorem exec_of_present {r : α} (first : 1 ≤ h) (last : h ≤ size) (present : t.at? h = some r)
    (run : exec c s = .next (s.onRecord t size h act)) : exec c s = .next (act r) :=
  run.trans (congrArg _ (State.onRecord_present s t size h act r first last present))

theorem refusedWith_present {r : α} {code : ResultCode} (first : 1 ≤ h) (last : h ≤ size) (present : t.at? h = some r)
    (run : exec c s = .next (s.onRecord t size h act)) (e : act r = s.refuse code) : RefusedWith c s code.code :=
  refusedWith_of_refuse (exec_of_present first last present run) e

end

/-! ## The checks of each request -/

section
variable (s : State) (h : Nat)

/-- What QUEUE_ADD and QUEUE_FIRST make of a present test point (R42, R43). -/
def State.place (queue : List QueueEntry) (position : Nat) (p : TestPoint) : State :=
  if p.status ≠ .idle then s.refuse .busy
  else if Config.queueEntries ≤ s.run.queue.length then s.refuse .full
  else
    (State.takeIfIdle
      { s with points := s.points.change h fun p => { p with status := .queued }
               run := { s.run with queue := queue } } s.tick).accept (bytesOf 1 position)

theorem State.enqueue_eq_onRecord (queue : List QueueEntry) (position : Nat) :
    s.enqueue h queue position = s.onRecord s.points Config.pointEntries h (s.place h queue position) := by
  unfold State.enqueue State.onRecord State.point?
  cases s.points.at? h <;> rfl

theorem exec_queueAdd : exec (.queueAdd h) s = .next (s.onRecord s.points Config.pointEntries h
    (s.place h (s.run.queue ++ [{ handle := h, marked := false }]) (s.run.queue.length + 1))) :=
  congrArg _ (s.enqueue_eq_onRecord h _ _)

theorem exec_queueFirst : exec (.queueFirst h) s = .next (s.onRecord s.points Config.pointEntries h
    (s.place h (insertAfterMarked s.run.queue { handle := h, marked := true })
      ((s.run.queue.takeWhile fun e => e.marked).length + 1))) :=
  congrArg _ (s.enqueue_eq_onRecord h _ _)

/-- What QUEUE_REMOVE makes of a present test point (R44, R145). -/
def State.removeEntry (p : TestPoint) : State :=
  match p.status with
  | .queued => ((s.unqueue h).changePoint h fun q => { q with status := .idle }).accept []
  | .suspended => ((s.unqueue h).changePoint h (TestPoint.abortSuspended .removed)).accept []
  | .active => s.refuse .busy
  | .idle => s.refuse .busy

theorem exec_queueRemove :
    exec (.queueRemove h) s = .next (s.onRecord s.points Config.pointEntries h (s.removeEntry h)) := by
  show execQueueRemove h s = _
  unfold execQueueRemove State.onRecord State.point?
  cases s.points.at? h <;> rfl

variable {s} {h}

/-- The three requests on a test point that need authority (R4, R15, R19, R129). -/
theorem point_denied {p : TestPoint} (first : 1 ≤ h) (last : h ≤ 64) (present : s.points.at? h = some p)
    (low : p.editLevel < s.level) (raw : RawPoint) :
    ∀ i ∈ [Instr.pointSet h raw, .pointDrop h, .resultDrop h], RefusedWith i s 0x26 := by
  simp only [List.forall_mem_cons, List.not_mem_nil, false_implies, implies_true, and_true]
  exact ⟨refusedWith_present (code := .denied) first last present rfl (if_pos low),
    refusedWith_present (code := .denied) first last present rfl (if_pos low),
    refusedWith_present (code := .denied) first last present rfl (if_pos low)⟩

/-- The two requests on a state that need authority (R4, R16, R20). -/
theorem state_denied {r : StateRecord} (first : 1 ≤ h) (last : h ≤ 192) (present : s.states.at? h = some r)
    (low : r.editLevel < s.level) (raw : RawState) :
    ∀ i ∈ [Instr.stateSet h raw, .stateDrop h], RefusedWith i s 0x26 := by
  simp only [List.forall_mem_cons, List.not_mem_nil, false_implies, implies_true, and_true]
  exact ⟨refusedWith_present (code := .denied) first last present rfl (if_pos low),
    refusedWith_present (code := .denied) first last present rfl (if_pos low)⟩

/-- The two requests on a characteristic that need authority (R4, R17, R20). -/
theorem curve_denied {k : Characteristic} (first : 1 ≤ h) (last : h ≤ 16) (present : s.curves.at? h = some k)
    (low : k.editLevel < s.level) (raw : RawCurve) :
    ∀ i ∈ [Instr.curveSet h raw, .curveDrop h], RefusedWith i s 0x26 := by
  simp only [List.forall_mem_cons, List.not_mem_nil, false_implies, implies_true, and_true]
  exact ⟨refusedWith_present (code := .denied) first last present rfl (if_pos low),
    refusedWith_present (code := .denied) first last present rfl (if_pos low)⟩

theorem service_denied (c : Chan) (high : 1 < s.level) : RefusedWith (.chanService c.number) s 0x26 := by
  refine refusedWith_of_refuse (code := .denied) (u := s.onChannel c.number _) rfl ?_
  simp [State.onChannel, high]

theorem stateInUse_iff : s.stateInUse h = true ↔
    ∃ e ∈ s.points, h ∈ e.2.content.states ∧ (e.2.status = .active ∨ e.2.status = .suspended) := by
  simp [State.stateInUse]

theorem curveInUse_iff : s.curveInUse h = true ↔
    ∃ e ∈ s.points, e.2.content.curve? = some h ∧ e.2.status = .active := by
  simp [State.curveInUse]

end

/-- Settles O17: every request on a record goes through its handle's and its presence's check to its own checks, each
of which answers before anything is changed. -/
theorem recordRequestsAreCheckedInOrder : Obligations.RecordRequestsAreCheckedInOrder := by
  intro s h a b c points states curves
  refine ⟨fun out => ?_, fun out => ?_, fun out => ?_, fun first => ⟨fun last absent => ?_, fun last absent => ?_,
    fun last absent => ?_, fun p last present => ⟨fun low => point_denied first last present low a,
      fun allowed busy => ?_, fun busy => ?_, fun idle full => ?_, fun wrong => ?_, fun none => ⟨?_, fun allowed => ?_⟩⟩,
    fun r last present => ⟨fun low => state_denied first last present low b, fun allowed named => ?_,
      fun allowed e he lists used => ?_⟩,
    fun r last present => ⟨fun low => curve_denied first last present low c, fun allowed named => ?_,
      fun allowed e he names used => ?_⟩⟩⟩
  · simp only [points, List.forall_mem_cons, List.not_mem_nil, false_implies, implies_true, and_true]
    exact ⟨refusedWith_badHandle out rfl, refusedWith_badHandle out rfl, refusedWith_badHandle out rfl,
      refusedWith_badHandle out rfl, refusedWith_badHandle out rfl, refusedWith_badHandle out (exec_queueAdd s h),
      refusedWith_badHandle out (exec_queueFirst s h), refusedWith_badHandle out (exec_queueRemove s h)⟩
  · simp only [states, List.forall_mem_cons, List.not_mem_nil, false_implies, implies_true, and_true]
    exact ⟨refusedWith_badHandle out rfl, refusedWith_badHandle out rfl, refusedWith_badHandle out rfl⟩
  · simp only [curves, List.forall_mem_cons, List.not_mem_nil, false_implies, implies_true, and_true]
    exact ⟨refusedWith_badHandle out rfl, refusedWith_badHandle out rfl, refusedWith_badHandle out rfl⟩
  · simp only [points, List.forall_mem_cons, List.not_mem_nil, false_implies, implies_true, and_true]
    exact ⟨refusedWith_absent first last absent rfl, refusedWith_absent first last absent rfl,
      refusedWith_absent first last absent rfl, refusedWith_absent first last absent rfl,
      refusedWith_absent first last absent rfl, refusedWith_absent first last absent (exec_queueAdd s h),
      refusedWith_absent first last absent (exec_queueFirst s h),
      refusedWith_absent first last absent (exec_queueRemove s h)⟩
  · simp only [states, List.forall_mem_cons, List.not_mem_nil, false_implies, implies_true, and_true]
    exact ⟨refusedWith_absent first last absent rfl, refusedWith_absent first last absent rfl,
      refusedWith_absent first last absent rfl⟩
  · simp only [curves, List.forall_mem_cons, List.not_mem_nil, false_implies, implies_true, and_true]
    exact ⟨refusedWith_absent first last absent rfl, refusedWith_absent first last absent rfl,
      refusedWith_absent first last absent rfl⟩
  · simp only [List.forall_mem_cons, List.not_mem_nil, false_implies, implies_true, and_true]
    have allowed := Nat.not_lt.2 allowed
    exact ⟨refusedWith_present (code := .busy) first last present rfl (by simp [allowed, busy]),
      refusedWith_present (code := .busy) first last present rfl (by simp [allowed, busy])⟩
  · simp only [List.forall_mem_cons, List.not_mem_nil, false_implies, implies_true, and_true]
    exact ⟨refusedWith_present (code := .busy) first last present (exec_queueAdd s h) (if_pos busy),
      refusedWith_present (code := .busy) first last present (exec_queueFirst s h) (if_pos busy)⟩
  · simp only [List.forall_mem_cons, List.not_mem_nil, false_implies, implies_true, and_true]
    have full : Config.queueEntries ≤ s.run.queue.length := full
    exact ⟨refusedWith_present (code := .full) first last present (exec_queueAdd s h) (by simp [State.place, idle, full]),
      refusedWith_present (code := .full) first last present (exec_queueFirst s h) (by simp [State.place, idle, full])⟩
  · refine refusedWith_present (code := .busy) first last present (exec_queueRemove s h) ?_
    rcases wrong with idle | active
    · simp [State.removeEntry, idle]
    · simp [State.removeEntry, active]
  · exact refusedWith_present (code := .absent) first last present rfl (by simp [none])
  · exact refusedWith_present (code := .absent) first last present rfl (by simp [none, Nat.not_lt.2 allowed])
  · exact refusedWith_present (code := .inUse) first last present rfl (by simp [named, Nat.not_lt.2 allowed])
  · have inUse := stateInUse_iff.2 ⟨e, he, lists, used⟩
    exact refusedWith_present (code := .busy) first last present rfl (by simp [inUse, Nat.not_lt.2 allowed])
  · exact refusedWith_present (code := .inUse) first last present rfl (by simp [named, Nat.not_lt.2 allowed])
  · have inUse := curveInUse_iff.2 ⟨e, he, names, used⟩
    exact refusedWith_present (code := .busy) first last present rfl (by simp [inUse, Nat.not_lt.2 allowed])

/-! ## The link authority level -/

theorem bytesOf_one (v : Nat) : bytesOf 1 v = [BitVec.ofNat 8 v] := by simp [bytesOf]

theorem level_le_of_exec {c : Instr} {s u : State} (noReset : ∀ found, c ≠ .deviceReset found)
    (h : exec c s = .next u) : s.level ≤ u.level ∧ (s.level ≤ 2 → u.level ≤ 2) := by
  by_cases hl : ∃ l, c = .levelStep l
  · obtain ⟨l, rfl⟩ := hl
    rcases exec_levelStep h with k | ⟨top, above, k⟩
    · exact ⟨k.level.ge, k.level.trans_le⟩
    · have level : u.level = l := k.level
      omega
  · have level := (exec_keeps h noReset fun l e => hl ⟨l, e⟩).level
    omega

/-- Settles O20: LEVEL_STEP alone changes the level, and upwards; every request that needs authority then reads the
level in force. -/
theorem levelStepsOneWay : Obligations.LevelStepsOneWay := by
  refine ⟨rfl, fun s found u h => ?_, fun s t u h => (Keeps.runReset t s u h).level, ?_, fun s level high => ?_,
    fun s level top below => ?_, fun s level top above => ?_, fun c s u noReset h => (level_le_of_exec noReset h).1,
    fun c s u noReset noStep h => (exec_keeps h noReset noStep).level⟩
  · rw [exec_deviceReset h]
    rfl
  · refine keptByStep_of_exec (fun c s u h i => ?_) (fun _ _ i => i) fun _ _ i => i
    by_cases hr : ∃ found, c = .deviceReset found
    · obtain ⟨found, rfl⟩ := hr
      rw [exec_deviceReset h]
      exact Nat.zero_le 2
    · exact (level_le_of_exec (fun found e => hr ⟨found, e⟩) h).2 i
  · exact refusedWith_of_refuse (code := .badValue) rfl (if_pos high)
  · refine refusedWith_of_refuse (code := .denied) rfl ((if_neg (Nat.not_lt.2 top)).trans (if_pos below))
  · refine ⟨?_, fun h p raw first last present low => point_denied first last present low raw,
      fun h r raw first last present low => state_denied first last present low raw,
      fun h r raw first last present low => curve_denied first last present low raw, fun c high => service_denied c high⟩
    have accepted : exec (.levelStep level) s = .next ({ s with level := level }.accept (bytesOf 1 level)) :=
      congrArg Host.Outcome.next ((if_neg (Nat.not_lt.2 top)).trans (if_neg (Nat.not_lt.2 above)))
    rw [accepted, bytesOf_one]
    rfl

end Sys2Proof.Machine

/-! The Plan Store's requests: creates, sets, drops and results. -/

namespace Sys2Proof.Machine

/-! ## Room and tags -/

section
variable {α : Type} {t : Table α} {size : Nat}

theorem Table.lowestAbsent_eq_some {h : Nat} (first : 1 ≤ h) (last : h ≤ size) (absent : t.at? h = none)
    (below : ∀ k, 1 ≤ k → k < h → (t.at? k).isSome) : t.lowestAbsent size = some h := by
  unfold Table.lowestAbsent
  rw [List.find?_range'_eq_some]
  refine ⟨by simp [absent], List.mem_range'_1.2 (by omega), fun k hk lt => ?_⟩
  simpa using below k hk lt

theorem Table.lowestAbsent_eq_none (full : ∀ k, 1 ≤ k → k ≤ size → (t.at? k).isSome) :
    t.lowestAbsent size = none := by
  unfold Table.lowestAbsent
  refine List.find?_eq_none.2 fun k hk => ?_
  have range := List.mem_range'_1.1 hk
  simpa [Option.isSome_iff_ne_none] using full k (by omega) (by omega)

end

theorem State.tagHeld_eq_true (s : State) (tag except : Nat) :
    s.tagHeld tag except = true ↔ ∃ e ∈ s.points, e.1 ≠ except ∧ e.2.content.tag = tag := by
  simp [State.tagHeld]

section
variable {s : State} {h edit : Nat}

theorem stateInUse_eq_false (unused : ∀ e ∈ s.points, h ∈ e.2.content.states → e.2.status = .idle ∨ e.2.status = .queued) :
    s.stateInUse h = false := by
  rw [Bool.eq_false_iff]
  intro inUse
  obtain ⟨e, he, lists, status⟩ := stateInUse_iff.1 inUse
  rcases unused e he lists with u | u <;> simp [u] at status

theorem curveInUse_eq_false (unused : ∀ e ∈ s.points, e.2.content.curve? = some h → e.2.status ≠ .active) :
    s.curveInUse h = false := by
  rw [Bool.eq_false_iff]
  intro inUse
  obtain ⟨e, he, names, active⟩ := curveInUse_iff.1 inUse
  exact unused e he names active

/-! ## Creating one state -/

theorem State.createState_badValue {raw : RawState} (bad : 2 < edit ∨ checkState raw = none) :
    s.createState edit raw = .error .badValue := by
  unfold State.createState
  rcases bad with high | wrong
  · simp [high]
  · simp [wrong]

theorem State.createState_full {raw : RawState} (level : edit ≤ 2) (good : (checkState raw).isSome)
    (full : ∀ k, 1 ≤ k → k ≤ 192 → (s.states.at? k).isSome) : s.createState edit raw = .error .full := by
  obtain ⟨c, hc⟩ := Option.isSome_iff_exists.1 good
  have none : s.states.lowestAbsent Config.stateEntries = none := Table.lowestAbsent_eq_none full
  simp [State.createState, Nat.not_lt.2 level, hc, none]

theorem State.createState_ok {raw : RawState} {c : StateContent} (level : edit ≤ 2) (good : checkState raw = some c)
    (lowest : s.states.lowestAbsent Config.stateEntries = some h) :
    s.createState edit raw = .ok (h, { s with states := s.states.put h (newState (storedLevel edit s.level) c) }) := by
  simp [State.createState, Nat.not_lt.2 level, good, lowest]

theorem exec_stateNew_error {raw : RawState} {code : ResultCode} (e : s.createState edit raw = .error code) :
    RefusedWith (.stateNew edit raw) s code.code := by
  refine refusedWith_of_refuse (u := _) (show execStateNew edit raw s = .next _ from rfl) ?_
  rw [e]

theorem exec_stateLoad_badValue {n : Nat} {entries : List (Nat × RawState)} (range : n = 0 ∨ 3 < n) :
    RefusedWith (.stateLoad n entries) s 0x22 :=
  refusedWith_of_refuse (code := .badValue) rfl (if_pos range)

/-- STATE_LOAD whose first entry fails is refused with that entry's code (R13). -/
theorem exec_stateLoad_error {n : Nat} {raw : RawState} {rest : List (Nat × RawState)} {code : ResultCode}
    (first : 1 ≤ n) (last : n ≤ 3) (e : s.createState edit raw = .error code) :
    RefusedWith (.stateLoad n ((edit, raw) :: rest)) s code.code := by
  have inRange : ¬ (n = 0 ∨ 3 < n) := by omega
  obtain ⟨m, rfl⟩ := Nat.exists_eq_add_of_le' first
  refine refusedWith_of_refuse (u := _) rfl ((if_neg inRange).trans ?_)
  simp only [List.take_succ_cons, State.loadStates, e]

end

/-- Settles O18: each request checks its content before the tag, and the tag before the room. -/
theorem contentIsCheckedBeforeTagAndRoom : Obligations.ContentIsCheckedBeforeTagAndRoom := by
  intro s edit a b c held
  refine ⟨fun bad => ?_, fun bad => exec_stateNew_error (State.createState_badValue bad), fun bad => ?_,
    fun x level good => ⟨fun hold => ?_, fun free full => ?_⟩,
    fun level good full => ⟨exec_stateNew_error (State.createState_full level good full),
      exec_stateLoad_error (Nat.le_refl 1) (by decide) (State.createState_full level good full)⟩,
    fun level good full => ?_,
    fun n rest => ⟨exec_stateLoad_badValue, fun first last bad =>
      exec_stateLoad_error first last (State.createState_badValue bad)⟩,
    fun h p first last present allowed idle => ⟨fun bad => ?_, fun x good hold => ?_⟩,
    fun h r first last present allowed unused bad => ?_, fun h r first last present allowed unused bad => ?_⟩
  · refine refusedWith_of_refuse (code := .badValue) (show execPointNew edit a s = .next _ from rfl) ?_
    rcases bad with high | wrong
    · exact if_pos high
    · simp [wrong]
  · refine refusedWith_of_refuse (code := .badValue) (show execCurveNew edit c s = .next _ from rfl) ?_
    rcases bad with high | wrong
    · exact if_pos high
    · simp [wrong]
  · refine refusedWith_of_refuse (code := .duplicateTag) (show execPointNew edit a s = .next _ from rfl) ?_
    simp [Nat.not_lt.2 level, good, (s.tagHeld_eq_true x.tag 0).2 hold]
  · have free : s.tagHeld x.tag 0 = false := by
      rw [Bool.eq_false_iff]
      exact fun hold => free ((s.tagHeld_eq_true x.tag 0).1 hold)
    have none : s.points.lowestAbsent Config.pointEntries = none := Table.lowestAbsent_eq_none full
    refine refusedWith_of_refuse (code := .full) (show execPointNew edit a s = .next _ from rfl) ?_
    simp [Nat.not_lt.2 level, good, free, none]
  · obtain ⟨x, hx⟩ := Option.isSome_iff_exists.1 good
    have none : s.curves.lowestAbsent Config.curveEntries = none := Table.lowestAbsent_eq_none full
    refine refusedWith_of_refuse (code := .full) (show execCurveNew edit c s = .next _ from rfl) ?_
    simp [Nat.not_lt.2 level, hx, none]
  · exact refusedWith_present (code := .badValue) first last present rfl (by simp [Nat.not_lt.2 allowed, idle, bad])
  · have hold := (s.tagHeld_eq_true x.tag h).2 hold
    exact refusedWith_present (code := .duplicateTag) first last present rfl
      (by simp [Nat.not_lt.2 allowed, idle, good, hold])
  · exact refusedWith_present (code := .badValue) first last present rfl
      (by simp [Nat.not_lt.2 allowed, stateInUse_eq_false unused, bad])
  · exact refusedWith_present (code := .badValue) first last present rfl
      (by simp [Nat.not_lt.2 allowed, curveInUse_eq_false unused, bad])

/-! ## Creates -/

section
variable {s : State} {edit h : Nat}

theorem exec_pointNew_ok {raw : RawPoint} {c : PointContent} (level : edit ≤ 2)
    (good : checkPoint s.states s.curves raw = some c) (free : s.tagHeld c.tag 0 = false)
    (lowest : s.points.lowestAbsent Config.pointEntries = some h) :
    exec (.pointNew edit raw) s = .next
      (({ s with points := s.points.put h (newPoint (storedLevel edit s.level) c) }.addReferences c).accept
        (bytesOf 1 h)) := by
  show execPointNew edit raw s = _
  simp [execPointNew, Nat.not_lt.2 level, good, free, lowest]

theorem exec_stateNew_ok {raw : RawState} {c : StateContent} (level : edit ≤ 2) (good : checkState raw = some c)
    (lowest : s.states.lowestAbsent Config.stateEntries = some h) :
    exec (.stateNew edit raw) s = .next
      (State.accept { s with states := s.states.put h (newState (storedLevel edit s.level) c) } (bytesOf 1 h)) := by
  show execStateNew edit raw s = _
  simp [execStateNew, State.createState_ok level good lowest]

theorem exec_curveNew_ok {raw : RawCurve} {c : CurveContent} (level : edit ≤ 2) (good : checkCurve raw = some c)
    (lowest : s.curves.lowestAbsent Config.curveEntries = some h) :
    exec (.curveNew edit raw) s = .next
      (State.accept { s with curves := s.curves.put h (newCurve (storedLevel edit s.level) c) } (bytesOf 1 h)) := by
  show execCurveNew edit raw s = _
  simp [execCurveNew, Nat.not_lt.2 level, good, lowest]

end

/-- Settles O12: the lowest absent handle takes the new record, and a test point's references are added. -/
theorem createsTakeTheLowestAbsentHandle : Obligations.CreatesTakeTheLowestAbsentHandle := by
  refine ⟨fun s edit raw c h level good unheld first last absent below => ?_, fun s edit h level first =>
    ⟨fun raw c good last absent below => ?_, fun raw c good last absent below => ?_⟩⟩
  · have free := (s.tagHeld_eq_false c.tag 0).2 fun e he _ => unheld e he
    refine ⟨_, exec_pointNew_ok level good free (Table.lowestAbsent_eq_some first last absent below),
      by rw [bytesOf_one]; rfl, ?_, fun k hk => ?_, fun k => State.addReferences_states _ c k,
      fun k => State.addReferences_curves _ c k⟩
    · exact (Table.at?_put _ _ _ _).trans (if_pos rfl)
    · exact (Table.at?_put _ _ _ _).trans (if_neg hk.symm)
  · exact ⟨_, exec_stateNew_ok level good (Table.lowestAbsent_eq_some first last absent below),
      by rw [bytesOf_one]; rfl, (Table.at?_put _ _ _ _).trans (if_pos rfl),
      fun k hk => (Table.at?_put _ _ _ _).trans (if_neg hk.symm)⟩
  · exact ⟨_, exec_curveNew_ok level good (Table.lowestAbsent_eq_some first last absent below),
      by rw [bytesOf_one]; rfl, (Table.at?_put _ _ _ _).trans (if_pos rfl),
      fun k hk => (Table.at?_put _ _ _ _).trans (if_neg hk.symm)⟩

/-! ## Sets -/

section
variable {s : State} {h : Nat}

theorem exec_pointSet_ok {raw : RawPoint} {p : TestPoint} {c : PointContent} (first : 1 ≤ h) (last : h ≤ 64)
    (present : s.points.at? h = some p) (allowed : s.level ≤ p.editLevel) (idle : p.status = .idle)
    (good : checkPoint s.states s.curves raw = some c) (free : s.tagHeld c.tag h = false) :
    exec (.pointSet h raw) s = .next ((((s.changePoint h fun q => { q.markStale with content := c }).removeReferences
      p.content).addReferences c).accept []) := by
  refine (exec_of_present first last present rfl).trans ?_
  simp [Nat.not_lt.2 allowed, idle, good, free]

theorem exec_stateSet_ok {raw : RawState} {r : StateRecord} {c : StateContent} (first : 1 ≤ h) (last : h ≤ 192)
    (present : s.states.at? h = some r) (allowed : s.level ≤ r.editLevel) (unused : s.stateInUse h = false)
    (good : checkState raw = some c) :
    exec (.stateSet h raw) s = .next
      ((State.staleByState { s with states := s.states.change h fun q => { q with content := c } } h).accept []) := by
  refine (exec_of_present first last present rfl).trans ?_
  simp [Nat.not_lt.2 allowed, unused, good]

theorem exec_curveSet_ok {raw : RawCurve} {r : Characteristic} {c : CurveContent} (first : 1 ≤ h) (last : h ≤ 16)
    (present : s.curves.at? h = some r) (allowed : s.level ≤ r.editLevel) (unused : s.curveInUse h = false)
    (good : checkCurve raw = some c) :
    exec (.curveSet h raw) s = .next
      ((State.staleByCurve { s with curves := s.curves.change h fun q => q.replace c } h).accept []) := by
  refine (exec_of_present first last present rfl).trans ?_
  simp [Nat.not_lt.2 allowed, unused, good]

end

/-- Settles O13: the record's content is replaced, a test point's references move with it, and the results concerned
are marked. -/
theorem setsReplaceTheContent : Obligations.SetsReplaceTheContent := by
  refine ⟨fun s h raw p c first last present allowed idle good unheld => ?_, fun s h => ?_⟩
  · have free := (s.tagHeld_eq_false c.tag h).2 unheld
    refine ⟨_, exec_pointSet_ok first last present allowed idle good free, rfl, ?_, fun k hk => ?_, fun k => ?_,
      fun k => ?_⟩
    · refine (Table.at?_change _ _ _ _).trans ?_
      simp [present, TestPoint.markStale]
    · exact (Table.at?_change _ _ _ _).trans (if_neg hk.symm)
    · refine (State.addReferences_states _ c k).trans ?_
      rw [State.removeReferences_states, Option.map_map]
      rfl
    · refine (State.addReferences_curves _ c k).trans ?_
      rw [State.removeReferences_curves, Option.map_map]
      rfl
  · intro stale
    refine ⟨fun raw r c first last present allowed unused good => ?_,
      fun raw r c first last present allowed unused good => ?_⟩
    · refine ⟨_, exec_stateSet_ok first last present allowed (stateInUse_eq_false unused) good, rfl, ?_, fun k hk => ?_,
        fun k => ?_⟩
      · refine (Table.at?_change _ _ _ _).trans ?_
        simp [present]
      · exact (Table.at?_change _ _ _ _).trans (if_neg hk.symm)
      · refine (Table.at?_changeAll _ _ _).trans ?_
        simp [stale, TestPoint.markStale]
    · refine ⟨_, exec_curveSet_ok first last present allowed (curveInUse_eq_false unused) good, rfl, ?_, fun k hk => ?_,
        fun k => ?_⟩
      · refine (Table.at?_change _ _ _ _).trans ?_
        simp [present, Characteristic.replace]
      · exact (Table.at?_change _ _ _ _).trans (if_neg hk.symm)
      · refine (Table.at?_changeAll _ _ _).trans ?_
        simp [stale, TestPoint.markStale]

/-! ## Drops -/

section
variable {s : State} {h : Nat}

theorem exec_pointDrop_ok {p : TestPoint} (first : 1 ≤ h) (last : h ≤ 64) (present : s.points.at? h = some p)
    (allowed : s.level ≤ p.editLevel) (idle : p.status = .idle) :
    exec (.pointDrop h) s = .next
      ((State.removeReferences { s with points := s.points.drop h } p.content).accept []) := by
  refine (exec_of_present first last present rfl).trans ?_
  simp [Nat.not_lt.2 allowed, idle]

theorem exec_stateDrop_ok {r : StateRecord} (first : 1 ≤ h) (last : h ≤ 192) (present : s.states.at? h = some r)
    (allowed : s.level ≤ r.editLevel) (unreferenced : r.refCount = 0) :
    exec (.stateDrop h) s = .next (State.accept { s with states := s.states.drop h } []) := by
  refine (exec_of_present first last present rfl).trans ?_
  simp [Nat.not_lt.2 allowed, unreferenced]

theorem exec_curveDrop_ok {r : Characteristic} (first : 1 ≤ h) (last : h ≤ 16) (present : s.curves.at? h = some r)
    (allowed : s.level ≤ r.editLevel) (unreferenced : r.refCount = 0) :
    exec (.curveDrop h) s = .next (State.accept { s with curves := s.curves.drop h } []) := by
  refine (exec_of_present first last present rfl).trans ?_
  simp [Nat.not_lt.2 allowed, unreferenced]

end

/-- Settles O14: the record leaves its table alone, a test point with its references. -/
theorem dropsRetireRecords : Obligations.DropsRetireRecords := by
  refine ⟨fun s h p first last present allowed idle => ?_, fun s h first =>
    ⟨fun r last present allowed unreferenced => ?_, fun r last present allowed unreferenced => ?_⟩⟩
  · exact ⟨_, exec_pointDrop_ok first last present allowed idle, rfl, (Table.at?_drop _ _ _).trans (if_pos rfl),
      fun k hk => (Table.at?_drop _ _ _).trans (if_neg hk.symm), fun k => State.removeReferences_states _ p.content k,
      fun k => State.removeReferences_curves _ p.content k⟩
  · exact ⟨_, exec_stateDrop_ok first last present allowed unreferenced, rfl, (Table.at?_drop _ _ _).trans (if_pos rfl),
      fun k hk => (Table.at?_drop _ _ _).trans (if_neg hk.symm)⟩
  · exact ⟨_, exec_curveDrop_ok first last present allowed unreferenced, rfl, (Table.at?_drop _ _ _).trans (if_pos rfl),
      fun k hk => (Table.at?_drop _ _ _).trans (if_neg hk.symm)⟩

/-! ## Results -/

theorem TestPoint.unread_eq_false {p : TestPoint} (read : ∀ r, p.result = some r → r.flags.unread = false) :
    p.unread = false := by
  unfold TestPoint.unread
  split
  · exact read _ ‹_›
  · rfl

theorem Table.mem_change {α : Type} {t : Table α} {h : Nat} {f : α → α} {e : Nat × α} :
    e ∈ t.change h f ↔ ∃ a, (e.1, a) ∈ t ∧ e.2 = if e.1 = h then f a else a := by
  induction t with
  | nil => simp [Table.change]
  | cons d t ih =>
    obtain ⟨j, b⟩ := d
    obtain ⟨k, a⟩ := e
    simp only [Table.change, List.mem_cons, ih, Prod.mk.injEq]
    constructor
    · rintro (⟨rfl, rfl⟩ | ⟨x, hx, e⟩)
      · exact ⟨b, .inl ⟨rfl, rfl⟩, rfl⟩
      · exact ⟨x, .inr hx, e⟩
    · rintro ⟨x, ⟨rfl, rfl⟩ | hx, e⟩
      · exact .inl ⟨rfl, e⟩
      · exact .inr ⟨x, hx, e⟩

/-- Settles O16: RESULT_GET reads the result and clears its mark, RESULT_DROP removes it. -/
theorem resultGetAndResultDrop : Obligations.ResultGetAndResultDrop := by
  intro s h p r first last present result
  constructor
  · have ran : exec (.resultGet h) s = .next ((s.changePoint h TestPoint.markRead).accept r.payload) := by
      refine (exec_of_present first last present rfl).trans ?_
      simp [result]
    refine ⟨_, ran, rfl, ?_, fun k hk => (Table.at?_change _ _ _ _).trans (if_neg hk.symm), fun others => ?_⟩
    · refine (Table.at?_change _ _ _ _).trans ?_
      simp [present, result, TestPoint.markRead]
    · refine List.any_eq_false.2 fun e he => ?_
      rw [Bool.not_eq_true]
      obtain ⟨a, ha, rest⟩ := Table.mem_change.1 he
      rw [rest]
      refine TestPoint.unread_eq_false fun q hq => ?_
      split at hq
      · simp only [TestPoint.markRead, Option.map_eq_some_iff] at hq
        obtain ⟨_, _, rfl⟩ := hq
        rfl
      · exact others _ ha ‹_› q hq
  · intro allowed
    have ran : exec (.resultDrop h) s = .next ((s.changePoint h fun q => { q with result := none }).accept []) := by
      refine (exec_of_present first last present rfl).trans ?_
      simp [result, Nat.not_lt.2 allowed]
    refine ⟨_, ran, rfl, ?_, fun k hk => (Table.at?_change _ _ _ _).trans (if_neg hk.symm)⟩
    refine (Table.at?_change _ _ _ _).trans ?_
    simp [present]

end Sys2Proof.Machine

/-! Steps, reset, the Serial Command Port and the Run Controller's simple requests. -/

namespace Sys2Proof.Machine

/-! ## Steps and reset -/

/-- Settles O1: `step` reads the queue of waiting commands, then the request in hand. -/
theorem stepRunsTheFrontCommand : Obligations.StepRunsTheFrontCommand := by
  refine ⟨fun c rest s waiting => ?_, fun s none => ⟨fun r hand => ?_, fun free => ?_⟩⟩
  · simp [step, waiting]
  · simp [step, none, hand]
  · simp [step, none, free]

/-- Settles O2: the reset values read off, and the invariants hold of them. -/
theorem resetLeavesEveryBlockAtItsValues : Obligations.ResetLeavesEveryBlockAtItsValues := by
  have input : ∀ n, State.reset.inputs.get n = Input.reset := PerInput.get_of _
  refine ⟨⟨⟨rfl, rfl, rfl, rfl, rfl⟩, ⟨rfl, rfl, rfl, rfl, rfl⟩, fun c => ?_, ⟨⟨rfl, rfl, fun c => (UnitInv.reset.rest rfl).2.2 c⟩, rfl⟩, fun c => ?_,
    fun n => ?_, ⟨rfl, rfl, rfl, rfl, rfl, rfl, rfl, rfl, rfl, rfl, rfl⟩, rfl, rfl, rfl, rfl⟩,
    LinkInv.reset, ReferenceInv.reset, RunInv.reset, RevisionInv.reset, UnitInv.reset, TimeInv.reset, ResultInv.reset⟩
  · have step : Synth.reset.step = phaseStep 50000 := by decide
    cases c <;> exact ⟨rfl, rfl, step, rfl⟩
  · cases c <;> exact ⟨rfl, rfl, rfl, rfl, rfl⟩
  · simp only [input]
    exact ⟨rfl, rfl, rfl, rfl, rfl⟩

/-- Time reaches a tick that the counter has not passed (R147). -/
theorem State.advanceTo_of_reached {s : State} {t : Tick} (h : Tick.reached s.tick t = true) :
    s.advanceTo t = { s with tick := t } := if_pos h

/-- An event whose condition does not hold lets time pass and nothing else. -/
theorem State.happen_of_not {s : State} {t : Tick} {condition : State → Bool} {effect : State → State}
    (h : Tick.reached s.tick t = true) (no : condition { s with tick := t } = false) :
    s.happen t condition effect = { s with tick := t } := by
  rw [← State.advanceTo_of_reached h] at no ⊢
  simp [State.happen, no]

/-- An event whose condition holds takes effect at its tick. -/
theorem State.happen_of {s : State} {t : Tick} {condition : State → Bool} {effect : State → State}
    (h : Tick.reached s.tick t = true) (yes : condition { s with tick := t } = true) :
    s.happen t condition effect = effect { s with tick := t } := by
  rw [← State.advanceTo_of_reached h] at yes ⊢
  simp [State.happen, yes]

theorem exec_assertion_ignored {s : State} {t : Tick} {c : Chan} (h : Tick.reached s.tick t = true)
    (no : (s.channels.get c).lineReadAt = t ∨ (s.channels.get c).faultLine = true) :
    exec (.amplifierFaultAssertion t c) s = .next { s with tick := t } := by
  refine congrArg Host.Outcome.next (State.happen_of_not h ?_)
  rcases no with read | asserted
  · simp [State.lineReadable, read]
  · simp [asserted]

theorem exec_pulse_ignored {s : State} {t : Tick} (h : Tick.reached s.tick t = true)
    (no : t = s.time.pps.readAt ∨ s.time.pps.high = true ∧ t = s.time.pps.readAt + 1) :
    exec (.pulse t) s = .next { s with tick := t } := by
  refine congrArg Host.Outcome.next (State.happen_of_not h ?_)
  rcases no with read | ⟨high, next⟩
  · simp [LineReading.mayRise, read]
  · simp [LineReading.mayRise, high, next]

/-- Settles O3: reset records the lines as found, which leaves no change to be found at tick 0. -/
theorem deviceResetRestoresEveryBlock : Obligations.DeviceResetRestoresEveryBlock := by
  intro s lines high
  have get : ∀ c, (PerChannel.of fun c => { channelsReset.get c with
      mute := c.isIn lines, faultLine := c.isIn lines }).get c =
        { channelsReset.get c with mute := c.isIn lines, faultLine := c.isIn lines } := PerChannel.get_of _
  have start : Tick.reached 0 0 = true := by decide
  have second : Tick.reached 0 1 = true := by decide
  have readAt : ∀ c, (channelsReset.get c).lineReadAt = 0 := fun c => by cases c <;> rfl
  refine ⟨_, rfl, rfl, get, rfl, fun c => ⟨exec_assertion_ignored start (.inl ?_), fun asserted t h =>
    exec_assertion_ignored h (.inr ?_)⟩, exec_pulse_ignored start (.inl rfl), fun found =>
    exec_pulse_ignored second (.inr ⟨found, rfl⟩)⟩
  · rw [get]
    exact readAt c
  · rw [get]
    exact asserted

/-! ## Transactions -/

theorem shiftedOut_eq (n : Nat) (link : Link) (bytes : List Byte) : shiftedOut n link bytes =
    (BitVec.ofNat 8 link.code :: bytes).take n ++ List.replicate (n - (bytes.length + 1)) 0 := by
  simp [shiftedOut, bytesOf_one]

theorem shiftedOut_nil (n : Nat) (link : Link) :
    shiftedOut (n + 1) link [] = BitVec.ofNat 8 link.code :: List.replicate n 0 := by
  simp [shiftedOut_eq]

theorem transactionKind_eq_none {first : Byte} (send : first ≠ 0x5A) (fetch : first ≠ 0xA5) (status : first ≠ 0x3C) :
    transactionKind first = none := by
  unfold transactionKind
  rw [if_neg send, if_neg fetch, if_neg status]

theorem fieldAt_byte (p : List Byte) (k : Nat) : fieldAt p k 1 = (p.getD k 0).toNat := by
  unfold fieldAt
  rcases Nat.lt_or_ge k p.length with lt | ge
  · rw [List.drop_eq_getElem_cons lt, List.getD_eq_getElem _ _ lt, List.take_succ_cons,
      List.take_zero]
    simp [valueOf]
  · rw [List.drop_eq_nil_of_le ge, List.getD_eq_default _ _ ge]
    rfl

/-- What the port holds once a frame has been sent (R163). -/
def Port.stored (p : Port) (bytes : List Byte) : Port :=
  { p with request := bytes.take 244, shifted := 0x01 :: List.replicate bytes.length 0 }

section
variable {s : State} {bytes : List Byte} (ready : s.port.link = .ready)
include ready

theorem exec_send_cut (judged : judgeFrame bytes.length (bytes.take 244) = .cut) : exec (.send bytes) s = .next
    { s with port := { s.port.stored bytes with frameCut := true, linkCause := true } } := by
  show execSend bytes s = _
  have judged : judgeFrame bytes.length (bytes.take Config.bufferBytes) = .cut := judged
  simp only [execSend, ready, shiftedOut_nil, judged, Port.stored, Port.setFrameCut]
  rfl

theorem exec_send_frameError (judged : judgeFrame bytes.length (bytes.take 244) = .frameError) :
    exec (.send bytes) s = .next
      { s with port := { (s.port.stored bytes).answered 0x10 [] with linkCause := true } } := by
  show execSend bytes s = _
  have judged : judgeFrame bytes.length (bytes.take Config.bufferBytes) = .frameError := judged
  simp only [execSend, ready, shiftedOut_nil, judged, Port.stored]
  rfl

theorem exec_send_received {code : Nat} {payload : List Byte}
    (judged : judgeFrame bytes.length (bytes.take 244) = .received code payload) :
    exec (.send bytes) s = .next (State.dispatch { s with port := s.port.stored bytes } code payload) := by
  show execSend bytes s = _
  have judged : judgeFrame bytes.length (bytes.take Config.bufferBytes) = .received code payload := judged
  simp only [execSend, ready, shiftedOut_nil, judged, Port.stored]
  rfl

end

/-- Settles O5: the first byte names the transaction, and each fault is judged before anything is dispatched. -/
theorem faultyFramesAndTransactionsExecuteNothing : Obligations.FaultyFramesAndTransactionsExecuteNothing := by
  refine ⟨⟨rfl, fun bytes => ⟨rfl, rfl, rfl, fun first a b c => ?_⟩, fun s => ⟨rfl, rfl⟩⟩,
    fun s bytes ready => ?_, fun s => ⟨fun bytes busy => ?_, fun first n a b c => ?_⟩⟩
  · simp [transactionOf, transactionKind_eq_none a b c]
  · intro length taken
    have length_eq : fieldAt (bytes.take 244) 1 1 = length := by
      rw [fieldAt_byte]
      simp [length]
    refine ⟨fun cut => exec_send_cut ready ?_, fun whole counted wrong => exec_send_frameError ready ?_⟩
    · simp only [judgeFrame, length_eq]
      exact if_pos cut
    · have notCut : ¬ (bytes.length < 4 ∨ bytes.length < 4 + length) := by omega
      simp only [judgeFrame, length_eq, if_neg notCut]
      by_cases long : Config.payloadMaximum < length
      · exact if_pos long
      · rw [if_neg long]
        by_cases excess : 4 + length < bytes.length
        · exact if_pos excess
        · have long : ¬ 240 < length := long
          have crc : valueOf ((bytes.drop (2 + length)).take 2) ≠ (crcOf (bytes.take (2 + length))).toNat := by
            rcases wrong with w | w | w
            · exact absurd w long
            · exact absurd w excess
            · exact w
          have stored : bytes.take 244 = bytes := List.take_of_length_le (by omega)
          rw [if_neg excess, stored]
          exact if_pos crc
  · show execSend bytes s = _
    cases link : s.port.link with
    | ready => exact absurd link busy
    | working => simp only [execSend, link, shiftedOut_nil, Port.setRefused]
    | answer => simp only [execSend, link, shiftedOut_nil, Port.setRefused]
  · show execUnknownKind first n s = _
    simp [execUnknownKind, transactionKind_eq_none a b c, shiftedOut_nil, Port.setRefused]

/-- Settles O6: only a FETCH in ANSWER that shifts the whole response out returns the link to READY. -/
theorem fetchReturnsTheResponse : Obligations.FetchReturnsTheResponse := by
  intro s n first out
  have some : n ≠ 0 := by omega
  have shifted : ∀ frame, shiftedOut n s.port.link frame = out frame := shiftedOut_eq n s.port.link
  refine ⟨fun answer whole => ?_, fun answer part => ?_, fun other => ?_⟩
  · show execFetch n s = _
    rw [← shifted]
    simp [execFetch, some, answer, whole]
  · show execFetch n s = _
    rw [← shifted]
    simp [execFetch, some, answer, Nat.not_lt.2 part]
  · show execFetch n s = _
    rw [← shifted]
    cases link : s.port.link with
    | answer => exact absurd link other
    | ready => simp [execFetch, some, link, ResultCode.code]
    | working => simp [execFetch, some, link, ResultCode.code]

/-- Settles O7: the block is latched before the causes are cleared, and RESULT is no event. -/
theorem statusReadClearsTheEventCauses : Obligations.StatusReadClearsTheEventCauses := by
  intro s n first bit attention block
  have some : n ≠ 0 := by omega
  have shifted : shiftedOut n s.port.link (s.statusBlock.drop 1) = block.take n ++ List.replicate (n - 4) 0 := by
    rw [shiftedOut_eq]
    simp [State.statusBlock, bytesOf_one, block, attention, bit, State.attentionByte, State.runByte, State.lockByte,
      bitsOf, Nat.add_assoc]
  rcases Nat.lt_or_ge n 2 with one | more
  · have notTwo : ¬ 2 ≤ n := by omega
    refine ⟨{ s with port := { s.port with shifted := shiftedOut n s.port.link (s.statusBlock.drop 1) } }, ?_, shifted,
      rfl, fun _ => rfl, fun two => absurd two notTwo⟩
    show execStatus n s = _
    simp [execStatus, some, notTwo]
  · refine ⟨{ s with port := { s.port.clearEvents with
      shifted := shiftedOut n s.port.link (s.statusBlock.drop 1) } }, ?_, shifted, rfl, fun one => by omega,
      fun _ => ⟨rfl, ?_⟩⟩
    · show execStatus n s = _
      simp [execStatus, some, more, Port.clearEvents]
    · simp [State.attnLow, Port.clearEvents]

/-! ## The Run Controller's simple requests -/

theorem schedulePolicyOf_eq {policy : Nat} (h : policy ≤ 1) :
    schedulePolicyOf policy = some (if policy = 0 then .lockedOnly else .holdoverOk) := by
  interval_cases policy <;> rfl

theorem schedulePolicyOf_none {policy : Nat} (h : 1 < policy) : schedulePolicyOf policy = none := by
  match policy, h with
  | n + 2, _ => rfl

/-- Settles O23: the setup is checked whole, and a release with nothing held back only clears the flag. -/
theorem runSetupHoldAndRelease : Obligations.RunSetupHoldAndRelease := by
  intro s
  refine ⟨fun rest wait policy a b c => ?_, fun rest wait policy bad => ?_, rfl, fun nothing => ?_⟩
  · show execRunSetup rest wait policy s = _
    simp only [execRunSetup, checkSetup, schedulePolicyOf_eq c, a, b, decide_true, Bool.and_self, if_true]
    rfl
  · refine refusedWith_of_refuse (code := .badValue) (show execRunSetup rest wait policy s = .next _ from rfl) ?_
    have none : checkSetup rest wait policy = none := by
      unfold checkSetup
      rcases Nat.lt_or_ge 1 policy with high | low
      · rw [schedulePolicyOf_none high]
      · have range : ¬ (rest ≤ 60000 ∧ wait ≤ 60000) := by omega
        simp [schedulePolicyOf_eq low, range]
    rw [none]
  · show execRunRelease s = _
    cases hold : s.run.hold with
    | false =>
      simp only [execRunRelease, hold, Bool.false_eq_true, if_false]
      rw [← hold]
      rfl
    | true =>
      simp only [execRunRelease, hold, if_true]
      let released := { s with run := { s.run with hold := false } }
      suffices same : released.released = released from congrArg (fun v => Host.Outcome.next (State.accept v [])) same
      rcases nothing with clear | ⟨idle, empty⟩ | ⟨busy, waits⟩
      · rw [hold] at clear
        cases clear
      · simp [released, State.released, idle, State.takeHead, empty]
      · unfold State.released
        split
        · exact absurd ‹_› busy
        · exact absurd ‹_› (waits _ _ _)
        · rfl

end Sys2Proof.Machine

/-! Bytes of payloads: fields at their offsets, and the frames and records laid out with them. -/

namespace Sys2Proof.Machine

/-! ## Fields -/

@[simp] theorem bytesOf_length (n v : Nat) : (bytesOf n v).length = n := by
  induction n with
  | zero => rfl
  | succ n ih => simp [bytesOf, ih]

theorem valueOf_cons (b : Byte) (rest : List Byte) : valueOf (b :: rest) = b.toNat * 256 ^ rest.length + valueOf rest := by
  have split := valueOf_append [b] rest
  simpa [valueOf] using split

theorem valueOf_bytesOf (n v : Nat) : valueOf (bytesOf n v) = v % 256 ^ n := by
  induction n with
  | zero => simp [bytesOf, valueOf, Nat.mod_one]
  | succ n ih =>
    rw [bytesOf, valueOf_cons, ih, bytesOf_length, BitVec.toNat_ofNat]
    show v / 256 ^ n % 256 * 256 ^ n + v % 256 ^ n = v % 256 ^ (n + 1)
    rw [Nat.pow_succ, Nat.mod_mul, Nat.add_comm, Nat.mul_comm]

theorem valueOf_bytesOf_of_lt {n v : Nat} (h : v < 256 ^ n) : valueOf (bytesOf n v) = v := by
  rw [valueOf_bytesOf, Nat.mod_eq_of_lt h]

section
variable (x y rest : List Byte) {offset width : Nat}

theorem fieldAt_append_left (h : offset + width ≤ x.length) : fieldAt (x ++ y) offset width = fieldAt x offset width := by
  unfold fieldAt
  rw [List.drop_append_of_le_length (by omega), List.take_append_of_le_length (by rw [List.length_drop]; omega)]

theorem fieldAt_append_right (h : x.length ≤ offset) :
    fieldAt (x ++ y) offset width = fieldAt y (offset - x.length) width := by
  unfold fieldAt
  rw [List.drop_append, List.drop_eq_nil_of_le h, List.nil_append]

theorem fieldAt_whole : fieldAt x 0 x.length = valueOf x := by simp [fieldAt]

/-- A field at the front is its value in its width. -/
@[simp] theorem fieldAt_front (n v : Nat) : fieldAt (bytesOf n v ++ rest) 0 n = v % 256 ^ n := by
  have whole := fieldAt_whole (bytesOf n v)
  rw [bytesOf_length, valueOf_bytesOf] at whole
  rw [fieldAt_append_left _ _ (by simp), whole]

@[simp] theorem fieldAt_single (n v : Nat) : fieldAt (bytesOf n v) 0 n = v % 256 ^ n := by
  simpa using fieldAt_front [] n v

/-- A field behind another one. -/
theorem fieldAt_behind {n : Nat} (v : Nat) (h : n ≤ offset) :
    fieldAt (bytesOf n v ++ rest) offset width = fieldAt rest (offset - n) width := by
  rw [fieldAt_append_right _ _ (by simpa using h), bytesOf_length]

end

/-- A field of the entry at an index of a list of entries of one width. -/
theorem fieldAt_flatMap {α : Type} {f : α → List Byte} {n : Nat} (size : ∀ a, (f a).length = n) {l : List α} {j : Nat}
    {a : α} (present : l[j]? = some a) {k width : Nat} (inside : k + width ≤ n) (rest : List Byte) :
    fieldAt (l.flatMap f ++ rest) (n * j + k) width = fieldAt (f a) k width := by
  induction l generalizing j with
  | nil => cases present
  | cons b l ih =>
    rw [List.flatMap_cons, List.append_assoc]
    cases j with
    | zero =>
      cases present
      rw [Nat.mul_zero, Nat.zero_add, fieldAt_append_left _ _ (by rw [size]; exact inside)]
    | succ j =>
      rw [fieldAt_append_right _ _ (by rw [size, Nat.mul_succ]; omega), size, ← ih present]
      congr 1
      rw [Nat.mul_succ]
      omega

theorem length_flatMap {α : Type} {f : α → List Byte} {n : Nat} (size : ∀ a, (f a).length = n) (l : List α) :
    (l.flatMap f).length = n * l.length := by
  induction l with
  | nil => rfl
  | cons a l ih => rw [List.flatMap_cons, List.length_append, ih, size, List.length_cons, Nat.mul_succ, Nat.add_comm]

/-! ## Bits -/

theorem bit_le (b : Bool) : bit b ≤ 1 := by cases b <;> decide

theorem bitsOf_nil : bitsOf [] = 0 := rfl

/-- A flag in a byte, by its weight. -/
theorem bitsOf_cons (b : Bool) (weight : Nat) (bits : List (Bool × Nat)) :
    bitsOf ((b, weight) :: bits) = weight * bit b + bitsOf bits := by
  cases b <;> simp [bitsOf, bit]

theorem byteOf_eq (b : Bool) : byteOf b = bytesOf 1 (bit b) := by cases b <;> rfl

/-! ## Frames -/

theorem judgeFrame_frameOf {code : Nat} {payload : List Byte} (hc : code < 256) (hp : payload.length ≤ 240) :
    judgeFrame (frameOf code payload).length ((frameOf code payload).take 244) = .received code payload := by
  have length : (frameOf code payload).length = 4 + payload.length := by simp [frameOf]; omega
  have whole : (frameOf code payload).take 244 = frameOf code payload := List.take_of_length_le (by omega)
  have second : fieldAt (frameOf code payload) 1 1 = payload.length := by
    rw [fieldAt_byte]
    simp only [frameOf, List.cons_append, List.getD_cons_succ, List.getD_cons_zero, BitVec.toNat_ofNat]
    omega
  have first : fieldAt (frameOf code payload) 0 1 = code := by
    rw [fieldAt_byte]
    simp only [frameOf, List.cons_append, List.getD_cons_zero, BitVec.toNat_ofNat]
    omega
  have body : (frameOf code payload).take (2 + payload.length) =
      BitVec.ofNat 8 code :: BitVec.ofNat 8 payload.length :: payload := by
    rw [frameOf, List.take_append_of_le_length (by simp; omega), List.take_of_length_le (by simp; omega)]
  have crc : fieldAt (frameOf code payload) (2 + payload.length) 2 =
      (crcOf (BitVec.ofNat 8 code :: BitVec.ofNat 8 payload.length :: payload)).toNat := by
    rw [frameOf, fieldAt_append_right _ _ (by simp; omega)]
    have offset : 2 + payload.length -
        (BitVec.ofNat 8 code :: BitVec.ofNat 8 payload.length :: payload : List Byte).length = 0 := by simp; omega
    rw [offset, fieldAt_single]
    exact Nat.mod_eq_of_lt (BitVec.isLt _)
  have notCut : ¬ 4 + payload.length < 4 := by omega
  have short : ¬ Config.payloadMaximum < payload.length := Nat.not_lt.2 hp
  simp only [judgeFrame, whole, length, second, first, body, crc, notCut, if_neg short, Nat.lt_irrefl, if_false,
    ne_eq, not_true_eq_false, List.drop_succ_cons, List.drop_zero, or_self]

/-- Settles O4: a whole frame is judged received, and what it carries is dispatched. -/
theorem sendOfAWholeFrameIsDispatched : Obligations.SendOfAWholeFrameIsDispatched := by
  intro s code payload ready hc hp
  have length : (frameOf code payload).length = payload.length + 4 := by simp [frameOf]
  have whole : (frameOf code payload).take 244 = frameOf code payload := List.take_of_length_le (by omega)
  have sent := exec_send_received ready (judgeFrame_frameOf hc hp)
  have port : s.port.stored (frameOf code payload) = { s.port with
      request := frameOf code payload, shifted := 0x01 :: List.replicate (payload.length + 4) 0 } := by
    rw [Port.stored, whole, length]
  rw [port] at sent
  refine ⟨_, sent, ?_⟩
  cases carried : readRequest (Tick.instantAfter s.tick) code payload with
  | unknownCommand =>
    unfold State.dispatch
    rw [carried]
    exact ⟨rfl, rfl, rfl⟩
  | badLength =>
    unfold State.dispatch
    rw [carried]
    exact ⟨rfl, rfl, rfl⟩
  | request r =>
    unfold State.dispatch
    rw [carried]
    exact ⟨rfl, rfl, rfl⟩

/-! ## The result record -/

theorem listTimePayload_length (time : Nat) : (listTimePayload time).length = 4 := by simp [listTimePayload]

theorem fieldAt_listTimePayload {time : Nat} (h : time < 2 ^ 32) : valueOf (listTimePayload time) = time := by
  rw [listTimePayload, if_pos h, valueOf_bytesOf_of_lt h]

theorem OperatedEntry.payload_length (e : OperatedEntry) : e.payload.length = 9 := by
  simp [OperatedEntry.payload, listTimePayload_length]

theorem Inp.number_range (n : Inp) : 1 ≤ n.number ∧ n.number ≤ 10 := by cases n <;> decide

theorem OperatedEntry.payload_fields (e : OperatedEntry) :
    fieldAt e.payload 0 1 = e.input.number + 128 * bit e.release.isSome ∧
      (e.operate < 2 ^ 32 → fieldAt e.payload 1 4 = e.operate) ∧
      (e.release.getD 0 < 2 ^ 32 → fieldAt e.payload 5 4 = e.release.getD 0) := by
  have number := Inp.number_range e.input
  have released := bit_le e.release.isSome
  refine ⟨?_, fun h => ?_, fun h => ?_⟩
  · simp only [OperatedEntry.payload, List.append_assoc, fieldAt_front, bitsOf_cons, bitsOf_nil]
    omega
  · rw [OperatedEntry.payload, List.append_assoc, fieldAt_behind _ _ (by decide),
      fieldAt_append_left _ _ (by simp [listTimePayload_length])]
    exact (congrArg (fieldAt _ 0) (listTimePayload_length _).symm).trans
      ((fieldAt_whole _).trans (fieldAt_listTimePayload h))
  · rw [OperatedEntry.payload, List.append_assoc, fieldAt_behind _ _ (by decide),
      fieldAt_append_right _ _ (by simp [listTimePayload_length]), listTimePayload_length]
    exact (congrArg (fieldAt _ 0) (listTimePayload_length _).symm).trans
      ((fieldAt_whole _).trans (fieldAt_listTimePayload h))

theorem Result.payload_length (r : Result) : r.payload.length = 34 + 9 * r.operated.length := by
  simp only [Result.payload, List.length_append, bytesOf_length, length_flatMap OperatedEntry.payload_length]

theorem Result.fieldAt_operated (r : Result) {j : Nat} {e : OperatedEntry} (present : r.operated[j]? = some e)
    {k width : Nat} (inside : k + width ≤ 9) : fieldAt r.payload (34 + 9 * j + k) width = fieldAt e.payload k width := by
  rw [Result.payload, fieldAt_append_right _ _ (by simp only [List.length_append, bytesOf_length]; omega)]
  have list := fieldAt_flatMap OperatedEntry.payload_length present inside []
  rw [List.append_nil] at list
  rw [← list]
  refine congrArg (fieldAt _ · width) ?_
  simp only [List.length_append, bytesOf_length]
  omega

section
variable (r : Result)

theorem Result.fieldAt_verdict : fieldAt r.payload 0 1 = r.verdict.code % 256 := by
  simp [Result.payload]

theorem Result.fieldAt_reason : fieldAt r.payload 1 1 = orZero (r.reason.map AbortReason.code) % 256 := by
  simp [Result.payload, fieldAt_behind]

theorem Result.fieldAt_flags : fieldAt r.payload 2 1 = r.flags.byte % 256 := by
  simp [Result.payload, fieldAt_behind]

theorem Result.fieldAt_presence : fieldAt r.payload 3 1 = r.presence % 256 := by
  simp [Result.payload, fieldAt_behind]

/-- The fixed fields after the presence byte, each in its width (R173). -/
theorem Result.fieldAt_values :
    fieldAt r.payload 4 1 = r.runCount % 256 ∧ fieldAt r.payload 5 1 = orZero r.skew % 256 ∧
    fieldAt r.payload 6 4 = orZero r.measured % 2 ^ 32 ∧
    fieldAt r.payload 10 4 = orZero (r.expected.map fun e => e.time) % 2 ^ 32 ∧
    fieldAt r.payload 14 4 = orZero (r.expected.map fun e => e.low) % 2 ^ 32 ∧
    fieldAt r.payload 18 4 = orZero (r.expected.map fun e => e.high) % 2 ^ 32 ∧
    fieldAt r.payload 22 2 = orZero r.multiple % 65536 ∧ fieldAt r.payload 24 2 = orZero r.revision % 65536 ∧
    fieldAt r.payload 26 2 = orZero (r.search.map fun f => f.lower) % 65536 ∧
    fieldAt r.payload 28 2 = orZero (r.search.map fun f => f.upper) % 65536 ∧
    fieldAt r.payload 30 2 = orZero r.boundary? % 65536 ∧
    fieldAt r.payload 32 1 = orZero (r.search.map fun f => f.shotsUsed) % 256 ∧
    fieldAt r.payload 33 1 = r.operated.length % 256 := by
  refine ⟨?_, ?_, ?_, ?_, ?_, ?_, ?_, ?_, ?_, ?_, ?_, ?_, ?_⟩ <;> simp [Result.payload, fieldAt_behind]

end

/-- An absent value is sent as 0, a present one as it is where it fits. -/
theorem orZero_map_lt {α : Type} {v : Option α} {f : α → Nat} {n : Nat} (positive : 0 < n)
    (fits : ∀ a, v = some a → f a < n) : orZero (v.map f) % n = (v.map f).getD 0 := by
  refine Nat.mod_eq_of_lt ?_
  cases v with
  | none => exact positive
  | some a => exact fits a rfl

/-- Settles O9: every field of the record read at its offset. -/
theorem resultRecordLayout : Obligations.ResultRecordLayout := by
  intro r runCount skew measured expected multiple revision search operated p boundary
  obtain ⟨count, skewed, time, middle, low, high, ratio, curve, lower, upper, found, shots, listed⟩ := r.fieldAt_values
  have bits := bit_le
  refine ⟨⟨r.payload_length, ?_, ?_, ?_, ?_⟩, ⟨count.trans (Nat.mod_eq_of_lt runCount),
    skewed.trans (Nat.mod_eq_of_lt skew), time.trans (Nat.mod_eq_of_lt measured),
    middle.trans (orZero_map_lt (by decide) fun e he => (expected e he).1),
    low.trans (orZero_map_lt (by decide) fun e he => (expected e he).2.1),
    high.trans (orZero_map_lt (by decide) fun e he => (expected e he).2.2), ratio.trans (Nat.mod_eq_of_lt multiple),
    curve.trans (Nat.mod_eq_of_lt revision), lower.trans (orZero_map_lt (by decide) fun f hf => (search f hf).1),
    upper.trans (orZero_map_lt (by decide) fun f hf => (search f hf).2.1), found.trans (Nat.mod_eq_of_lt ?_),
    shots.trans (orZero_map_lt (by decide) fun f hf => (search f hf).2.2.2)⟩,
    listed.trans (Nat.mod_eq_of_lt (by omega)), fun j e present => ?_⟩
  · rw [r.fieldAt_verdict]
    cases r.verdict <;> rfl
  · rw [r.fieldAt_reason]
    cases r.reason with
    | none => rfl
    | some reason => cases reason <;> rfl
  · rw [r.fieldAt_flags, ResultFlags.byte]
    simp only [bitsOf_cons, bitsOf_nil]
    have := bits r.flags.prefault
    have := bits r.flags.clamped
    have := bits r.flags.compliance
    have := bits r.flags.shortWindow
    have := bits r.flags.timeHoldover
    have := bits r.flags.stale
    have := bits r.flags.unread
    omega
  · rw [r.fieldAt_presence, Result.presence]
    simp only [bitsOf_cons, bitsOf_nil, Result.boundary?, boundary]
    have := bits r.reason.isSome
    have := bits r.measured.isSome
    have := bits r.expected.isSome
    have := bits r.multiple.isSome
    have := bits r.revision.isSome
    have := bits r.skew.isSome
    have := bits (r.search.bind fun f => f.boundary).isSome
    have := bits r.search.isSome
    omega
  · cases hs : r.search with
    | none => simp [Result.boundary?, hs, orZero]
    | some f => simpa [Result.boundary?, hs, orZero] using (search f hs).2.2.1
  · obtain ⟨number, operate, release⟩ := e.payload_fields
    have at' := fun {k width : Nat} (inside : k + width ≤ 9) => r.fieldAt_operated present inside
    have first := at' (k := 0) (width := 1) (by decide)
    have second := at' (k := 1) (width := 4) (by decide)
    have third := at' (k := 5) (width := 4) (by decide)
    rw [show 34 + 9 * j + 1 = 35 + 9 * j by omega] at second
    rw [show 34 + 9 * j + 5 = 39 + 9 * j by omega] at third
    exact ⟨first.trans number, fun h => second.trans (operate h), fun h => third.trans (release h)⟩

end Sys2Proof.Machine

/-! Looking up a tag, and the pool that STATE_LOAD fills in order. -/

namespace Sys2Proof.Machine

/-! ## Tags -/

section
variable {s : State} {tag : Nat}

theorem findTag_eq_none (free : ∀ e ∈ s.points, e.2.content.tag ≠ tag) : s.findTag tag = none := by
  rw [State.findTag, List.find?_eq_none.2 (by simpa using free)]
  rfl

theorem pointFind_absent (nonzero : tag ≠ 0) (free : ∀ e ∈ s.points, e.2.content.tag ≠ tag) :
    RefusedWith (.pointFind tag) s 0x21 := by
  refine refusedWith_of_refuse (code := .absent) (show execPointFind tag s = .next _ from rfl) ?_
  rw [if_neg nonzero, findTag_eq_none free]

/-- The find stops at the one holder. -/
theorem findTag_eq_some {h : Nat} {p : TestPoint} (present : s.points.at? h = some p) (holds : p.content.tag = tag)
    (only : ∀ e ∈ s.points, e.2.content.tag = tag → e.1 = h) : s.findTag tag = some h := by
  have listed := Table.mem_of_at? s.points h p present
  cases found : s.points.find? fun e => e.2.content.tag = tag with
  | none => exact absurd holds (by simpa using List.find?_eq_none.1 found _ listed)
  | some e =>
    have member := List.mem_of_find?_eq_some found
    have this := by simpa using List.find?_some found
    simp [State.findTag, found, only e member this]

end

/-- A test point other than the one at a handle has another tag. -/
theorem TablesInv.other_tag {s : State} (i : TablesInv s) {h k : Nat} {p q : TestPoint} (present : s.points.at? h = some p)
    (listed : (k, q) ∈ s.points) (other : k ≠ h) : q.content.tag ≠ p.content.tag := fun same =>
  other (i.tags k q h p (Table.at?_of_mem i.points listed) present same)

/-- What holds of every refusal and of what is made of a record present holds of a request on a record. -/
theorem State.onRecord_elim {motive : State → Prop} {s : State} {α : Type} {t : Table α} {size h : Nat} {act : α → State}
    (refused : ∀ code, motive (s.refuse code)) (present : ∀ r, motive (act r)) : motive (s.onRecord t size h act) := by
  rcases State.onRecord_cases s t size h act with ⟨-, e⟩ | ⟨-, -, -, e⟩ | ⟨-, -, r, -, e⟩
  · exact e ▸ refused _
  · exact e ▸ refused _
  · exact e ▸ present r

/-- What POINT_DROP leaves: the points as they were, or one absent. -/
theorem points_of_pointDrop {s u : State} {h : Nat} (ran : exec (.pointDrop h) s = .next u) :
    u.points = s.points ∨ u.points = s.points.drop h := by
  have ran : execPointDrop h s = .next u := ran
  unfold execPointDrop at ran
  cases ran
  refine State.onRecord_elim (motive := fun u => u.points = s.points ∨ u.points = s.points.drop h)
    (fun _ => .inl rfl) fun p => ?_
  split
  · exact .inl rfl
  · split
    · exact .inl rfl
    · exact .inr rfl

/-- What POINT_SET leaves: the points as they were, or one content replaced. -/
theorem points_of_pointSet {s u : State} {h : Nat} {raw : RawPoint} (ran : exec (.pointSet h raw) s = .next u) :
    u.points = s.points ∨ ∃ c, u.points = s.points.change h fun q => { q.markStale with content := c } := by
  have ran : execPointSet h raw s = .next u := ran
  unfold execPointSet at ran
  cases ran
  refine State.onRecord_elim (motive := fun u =>
    u.points = s.points ∨ ∃ c, u.points = s.points.change h fun q => { q.markStale with content := c })
    (fun _ => .inl rfl) fun p => ?_
  dsimp only
  split
  · exact .inl rfl
  · split
    · exact .inl rfl
    · split
      · exact .inl rfl
      · split
        · exact .inl rfl
        · exact .inr ⟨_, rfl⟩

/-- Settles O10: tags are unique among the present test points, and a request that frees a tag leaves none with it. -/
theorem pointFindAnswersTheHolder : Obligations.PointFindAnswersTheHolder := by
  intro s i
  refine ⟨refusedWith_of_refuse (code := .badValue) (show execPointFind 0 s = .next _ from rfl) rfl,
    fun tag nonzero free => pointFind_absent nonzero fun e he => free e.1 e.2 (Table.at?_of_mem i.points he),
    fun h p present => ⟨?_, fun k q there same => i.tags k q h p there present same, fun u ran gone => ?_,
      fun raw u q ran there moved => ?_⟩⟩
  · have found : s.findTag p.content.tag = some h := findTag_eq_some present rfl fun e he same =>
      i.tags e.1 e.2 h p (Table.at?_of_mem i.points he) present same
    show execPointFind p.content.tag s = _
    rw [execPointFind, if_neg (i.tagged h p present), found]
    simp only [bytesOf_one]
    rfl
  · refine pointFind_absent (i.tagged h p present) fun e he => ?_
    have dropped : u.points = s.points.drop h := (points_of_pointDrop ran).resolve_left fun same => by
      rw [same, present] at gone
      cases gone
    rw [dropped] at he
    have listed := (Table.drop_sublist s.points h).subset he
    refine i.other_tag present (k := e.1) (q := e.2) listed fun same => ?_
    have absent := Table.at?_isSome_of_mem _ e he
    rw [same, Table.at?_drop, if_pos rfl] at absent
    cases absent
  · refine pointFind_absent (i.tagged h p present) fun e he => ?_
    rcases points_of_pointSet ran with same | ⟨c, changed⟩
    · rw [same, present] at there
      cases there
      exact absurd rfl moved
    · rw [changed, Table.at?_change, if_pos rfl, present] at there
      cases there
      rw [changed] at he
      obtain ⟨a, ha, rest⟩ := Table.mem_change.1 he
      rw [rest]
      split
      · exact moved
      · exact i.other_tag present ha ‹_›

/-! ## Room in a table -/

section
variable {α : Type} {t : Table α} {size : Nat}

theorem Table.handles_nodup (wf : t.wf size = true) : (t.map Prod.fst).Nodup := by
  obtain ⟨-, rising⟩ := (Table.wf_iff t size).1 wf
  exact List.pairwise_map.2 (rising.imp fun lt => Nat.ne_of_lt lt)

/-- A table with room has a lowest absent handle. -/
theorem Table.lowestAbsent_of_room (room : t.length < size) : ∃ h, t.lowestAbsent size = some h := by
  cases found : t.lowestAbsent size with
  | some h => exact ⟨h, rfl⟩
  | none =>
    have full : ∀ k ∈ List.range' 1 size, k ∈ t.map Prod.fst := by
      intro k hk
      have present := List.find?_eq_none.1 found k hk
      cases there : t.at? k with
      | none => simp [there] at present
      | some a => exact List.mem_map.2 ⟨(k, a), Table.mem_of_at? t k a there, rfl⟩
    have := (List.nodup_range' (step := 1)).subperm full |>.length_le
    simp only [List.length_range', List.length_map] at this
    omega

/-- A table in canonical form with as many entries as it may hold has no absent handle. -/
theorem Table.full_of_length (wf : t.wf size = true) (length : t.length = size) {k : Nat} (first : 1 ≤ k)
    (last : k ≤ size) : (t.at? k).isSome := by
  obtain ⟨ranges, -⟩ := (Table.wf_iff t size).1 wf
  cases there : t.at? k with
  | some a => rfl
  | none =>
    have inside : ∀ j ∈ t.map Prod.fst, j ∈ (List.range' 1 size).erase k := by
      intro j hj
      obtain ⟨e, he, rfl⟩ := List.mem_map.1 hj
      have range := ranges e he
      refine (List.mem_erase_of_ne fun same => ?_).2 (List.mem_range'_1.2 (by omega))
      have present := Table.at?_isSome_of_mem t e he
      rw [same, there] at present
      cases present
    have := (Table.handles_nodup wf).subperm inside |>.length_le
    rw [List.length_erase_of_mem (List.mem_range'_1.2 (by omega)), List.length_range', List.length_map] at this
    omega

theorem Table.length_put {h : Nat} (a : α) (absent : t.at? h = none) : (t.put h a).length = t.length + 1 := by
  induction t with
  | nil => rfl
  | cons e t ih =>
    obtain ⟨k, b⟩ := e
    unfold Table.put
    split
    · rfl
    · by_cases hk : k = h
      · simp [Table.at?, hk] at absent
      · rw [if_neg hk, List.length_cons, List.length_cons, ih (by simpa [Table.at?, hk] using absent)]

end

/-! ## STATE_LOAD -/

/-- An entry that creates where there is room: its edit level and its content pass their checks (R10, R12). -/
def GoodEntry (e : Nat × RawState) : Prop := e.1 ≤ 2 ∧ (checkState e.2).isSome

/-- Entries created in order at the lowest absent handles, everything else as it was (R12, R13). -/
structure CreatedInOrder (s : State) (entries : List (Nat × RawState)) (handles : List Nat) (u : State) : Prop where
  length : handles.length = entries.length
  rising : handles.Pairwise (· < ·)
  each : ∀ (i : Nat) (e : Nat × RawState), entries[i]? = some e → ∃ (h : Nat) (c : StateContent),
    handles[i]? = some h ∧ 1 ≤ h ∧ h ≤ 192 ∧ s.states.at? h = none ∧
    (∀ k, 1 ≤ k → k < h → (s.states.at? k).isSome ∨ k ∈ handles) ∧ checkState e.2 = some c ∧
    u.states.at? h = some { editLevel := max e.1 s.level, content := c, refCount := 0 }
  others : ∀ k, k ∉ handles → u.states.at? k = s.states.at? k

/-- A handle of the list is one of the pool's, and absent before. -/
theorem CreatedInOrder.handle {s u : State} {entries : List (Nat × RawState)} {handles : List Nat}
    (made : CreatedInOrder s entries handles u) {h : Nat} (hm : h ∈ handles) : 1 ≤ h ∧ s.states.at? h = none := by
  obtain ⟨i, hi, rfl⟩ := List.getElem_of_mem hm
  have bound : i < entries.length := made.length ▸ hi
  obtain ⟨k, c, at', first, -, absent, -⟩ := made.each i entries[i] (List.getElem?_eq_getElem bound)
  rw [List.getElem?_eq_getElem hi] at at'
  cases at'
  exact ⟨first, absent⟩

/-- One entry created before the others. -/
theorem CreatedInOrder.cons {s u : State} {e : Nat × RawState} {c : StateContent} {entries : List (Nat × RawState)}
    {handles : List Nat} {h : Nat} (lowest : s.states.lowestAbsent 192 = some h) (good : checkState e.2 = some c)
    (later : CreatedInOrder { s with states := s.states.put h (newState (storedLevel e.1 s.level) c) } entries handles u) :
    CreatedInOrder s (e :: entries) (h :: handles) u := by
  obtain ⟨first, last, absent, below⟩ := Table.lowestAbsent_spec _ _ _ lowest
  have put : ∀ k, (s.states.put h (newState (storedLevel e.1 s.level) c)).at? k =
      if h = k then some (newState (storedLevel e.1 s.level) c) else s.states.at? k := fun k => Table.at?_put _ _ _ _
  have notHere : ∀ k, (s.states.put h (newState (storedLevel e.1 s.level) c)).at? k = none →
      h ≠ k ∧ s.states.at? k = none := by
    intro k hk
    rw [put] at hk
    split at hk
    · cases hk
    · exact ⟨‹_›, hk⟩
  have above : ∀ k ∈ handles, h < k := by
    intro k hk
    obtain ⟨one, free⟩ := later.handle hk
    obtain ⟨other, was⟩ := notHere k free
    rcases Nat.lt_trichotomy h k with lt | eq | gt
    · exact lt
    · exact absurd eq other
    · have present := below k one gt
      rw [was] at present
      cases present
  refine ⟨by rw [List.length_cons, later.length, List.length_cons],
    List.pairwise_cons.2 ⟨above, later.rising⟩, fun i d hi => ?_, fun k hk => ?_⟩
  · cases i with
    | zero =>
      cases hi
      refine ⟨h, c, rfl, first, last, absent, fun k one lt => .inl (below k one lt), good, ?_⟩
      rw [later.others h fun hm => absurd (above h hm) (Nat.lt_irrefl h)]
      exact (put h).trans (if_pos rfl)
    | succ i =>
      obtain ⟨k, x, at', one, top, free, fill, checked, stored⟩ := later.each i d hi
      obtain ⟨-, was⟩ := notHere k free
      refine ⟨k, x, at', one, top, was, fun j one lt => ?_, checked, stored⟩
      rcases fill j one lt with present | listed
      · by_cases hj : h = j
        · exact .inr (hj ▸ List.mem_cons_self)
        · exact .inl (by simpa [put, hj] using present)
      · exact .inr (List.mem_cons_of_mem _ listed)
  · obtain ⟨other, listed⟩ := not_or.1 (mt List.mem_cons.2 hk)
    rw [later.others k listed]
    exact (put k).trans (if_neg (Ne.symm other))

/-- Good entries are created while there is room, and the load goes on behind them. -/
theorem loadStates_good (s : State) (wf : s.states.wf 192 = true) (entries after : List (Nat × RawState))
    (room : s.states.length + entries.length ≤ 192) (good : ∀ e ∈ entries, GoodEntry e) :
    ∃ (t : Table StateRecord) (handles : List Nat),
      s.loadStates (entries ++ after) = ((State.loadStates { s with states := t } after).1,
        handles ++ (State.loadStates { s with states := t } after).2.1,
        (State.loadStates { s with states := t } after).2.2) ∧
      t.wf 192 = true ∧ t.length = s.states.length + entries.length ∧
      CreatedInOrder s entries handles { s with states := t } := by
  induction entries generalizing s with
  | nil =>
    exact ⟨s.states, [], rfl, wf, rfl, ⟨rfl, .nil, (fun i e h => nomatch h), fun _ _ => rfl⟩⟩
  | cons e entries ih =>
    obtain ⟨edit, raw⟩ := e
    have room : s.states.length + (entries.length + 1) ≤ 192 := room
    obtain ⟨level, checked⟩ := good (edit, raw) List.mem_cons_self
    obtain ⟨c, hc⟩ := Option.isSome_iff_exists.1 checked
    obtain ⟨h, lowest⟩ := Table.lowestAbsent_of_room (t := s.states) (size := 192) (by omega)
    obtain ⟨first, last, absent, -⟩ := Table.lowestAbsent_spec _ _ _ lowest
    have created := State.createState_ok level hc lowest
    obtain ⟨t, handles, run, wf', length, made⟩ :=
      ih { s with states := s.states.put h (newState (storedLevel edit s.level) c) }
        (Table.wf_put _ _ _ _ wf first last) (by rw [Table.length_put _ absent]; omega)
        fun e he => good e (List.mem_cons_of_mem _ he)
    refine ⟨t, h :: handles, ?_, wf', ?_, CreatedInOrder.cons lowest hc made⟩
    · simp only [List.cons_append, State.loadStates, created, run]
    · rw [length, Table.length_put _ absent, List.length_cons]
      omega

/-- The load stops at an entry that fails (R13). -/
theorem loadStates_failing {s : State} {edit : Nat} {raw : RawState} {code : ResultCode}
    (failed : s.createState edit raw = .error code) (after : List (Nat × RawState)) :
    s.loadStates ((edit, raw) :: after) = (s, [], some (code, after.length + 1)) := by
  simp only [State.loadStates, failed]

theorem flatMap_bytesOf_one (l : List Nat) : l.flatMap (bytesOf 1) = l.map (BitVec.ofNat 8) := by
  induction l with
  | nil => rfl
  | cons a l ih => rw [List.flatMap_cons, bytesOf_one, ih]; rfl

/-- Settles O15: the good entries are created in order, and a failing one ends the load with the count that remains. -/
theorem stateLoadCreatesInOrder : Obligations.StateLoadCreatesInOrder := by
  intro s wf good created
  refine ⟨fun entries some few room all => ?_, fun before after failing code some few room all fails => ?_⟩
  · obtain ⟨t, handles, run, -, -, made⟩ := loadStates_good s wf entries [] room all
    have inRange : ¬ (entries.length = 0 ∨ 3 < entries.length) := by omega
    simp only [List.append_nil, State.loadStates] at run
    refine ⟨State.accept { s with states := t } (handles.map (BitVec.ofNat 8)), handles, ?_, rfl,
      made.length, made.rising, made.each, made.others⟩
    show execStateLoad _ _ s = _
    simp only [execStateLoad, if_neg inRange, List.take_length, run, flatMap_bytesOf_one]
  · obtain ⟨t, handles, run, wf', length, made⟩ := loadStates_good s wf before (failing :: after) room all
    obtain ⟨edit, raw⟩ := failing
    have inRange : ¬ (before.length + 1 + after.length = 0 ∨ 3 < before.length + 1 + after.length) := by omega
    obtain ⟨result, failed, codes⟩ : ∃ result, State.createState { s with states := t } edit raw = .error result ∧
        result.code = code := by
      rcases fails with ⟨bad, rfl⟩ | ⟨⟨level, checked⟩, full, rfl⟩
      · exact ⟨.badValue, State.createState_badValue bad, rfl⟩
      · exact ⟨.full, State.createState_full level checked fun k first last =>
          Table.full_of_length wf' (by omega) first last, rfl⟩
    rw [loadStates_failing failed, List.append_nil] at run
    have whole : (before ++ (edit, raw) :: after).take (before.length + 1 + after.length) =
        before ++ (edit, raw) :: after := List.take_of_length_le (by simp; omega)
    refine ⟨State.respond { s with states := t } .partly
      (handles.map (BitVec.ofNat 8) ++ [BitVec.ofNat 8 (after.length + 1), BitVec.ofNat 8 code]), handles, ?_, rfl,
      made.length, made.rising, made.each, made.others⟩
    obtain ⟨h, rest, rfl⟩ := List.exists_cons_of_ne_nil (l := handles) fun none => by
      have := made.length
      rw [none, List.length_nil] at this
      omega
    show execStateLoad _ _ s = _
    simp only [execStateLoad, if_neg inRange, whole, run, flatMap_bytesOf_one, bytesOf_one, codes, List.append_assoc,
      List.cons_append, List.nil_append]

end Sys2Proof.Machine

/-! The content checks: what a raw content names, and when the content named is in range. -/

namespace Sys2Proof.Machine

/-! ## Codes -/

theorem endConditionOf_eq_some {k : Nat} {e : EndCondition} : endConditionOf k = some e ↔ k = e.code := by
  match k with
  | 0 => cases e <;> simp [endConditionOf, EndCondition.code]
  | 1 => cases e <;> simp [endConditionOf, EndCondition.code]
  | n + 2 => cases e <;> simp [endConditionOf, EndCondition.code]

theorem combineOf_eq_some {k : Nat} {c : Combine} : combineOf k = some c ↔ k = c.code := by
  match k with
  | 0 => cases c <;> simp [combineOf, Combine.code]
  | 1 => cases c <;> simp [combineOf, Combine.code]
  | n + 2 => cases c <;> simp [combineOf, Combine.code]

theorem policyOf_eq_some {k : Nat} {p : Policy} : policyOf k = some p ↔ k = p.code := by
  match k with
  | 0 => cases p <;> simp [policyOf, Policy.code]
  | 1 => cases p <;> simp [policyOf, Policy.code]
  | n + 2 => cases p <;> simp [policyOf, Policy.code]

theorem quantityOf_eq_some {k : Nat} {q : Quantity} : quantityOf k = some q ↔ k = q.code := by
  constructor
  · intro h
    unfold quantityOf at h
    split at h <;> cases h <;> rfl
  · rintro rfl
    cases q <;> rfl

/-! ## States -/

/-- What an inception's code and angle name (R10). -/
def InceptionNamed (code theta : Nat) : Inception → Prop
  | .continuous => code = 0
  | .angle a => code = 1 ∧ theta = a ∧ a ≤ 35999

theorem inceptionOf_eq_some {code theta : Nat} {i : Inception} :
    inceptionOf code theta = some i ↔ InceptionNamed code theta i := by
  match code with
  | 0 => cases i <;> simp [inceptionOf, InceptionNamed]
  | 1 =>
    cases i with
    | continuous => simp [inceptionOf, InceptionNamed]
    | angle a =>
      simp only [inceptionOf, InceptionNamed, Option.ite_none_right_eq_some, Option.some.injEq, Inception.angle.injEq,
        true_and]
      exact ⟨fun ⟨range, same⟩ => ⟨same, same ▸ range⟩, fun ⟨same, range⟩ => ⟨same ▸ range, same⟩⟩
  | n + 2 => cases i <;> simp [inceptionOf, InceptionNamed]

/-- A raw state content names a content, field by field (R10). -/
structure StateNamed (r : RawState) (c : StateContent) : Prop where
  settings : c.settings = r.settings
  outputs : c.outputs.toNat = r.outputs
  duration : c.duration = r.duration
  endCondition : r.endCondition = c.endCondition.code
  inception : InceptionNamed r.inception r.theta c.inception

/-- A state content within its ranges (R10). -/
structure StateContent.InRange (c : StateContent) : Prop where
  settings : ∀ ch, settingInRange ch (c.settings.get ch) = true
  shortest : 100 ≤ c.duration
  longest : c.duration ≤ 600000000

theorem checkState_eq_some {r : RawState} {c : StateContent} : checkState r = some c ↔ StateNamed r c ∧ c.InRange := by
  unfold checkState
  constructor
  · intro h
    split at h
    · rename_i e i he hi
      split at h
      · rename_i passed
        simp only [Bool.and_eq_true, List.all_eq_true, decide_eq_true_eq, and_assoc] at passed
        obtain ⟨settings, outputs, shortest, longest⟩ := passed
        cases h
        exact ⟨⟨rfl, Nat.mod_eq_of_lt outputs, rfl, endConditionOf_eq_some.1 he, inceptionOf_eq_some.1 hi⟩,
          fun ch => settings ch (Chan.mem_all ch), shortest, longest⟩
      · cases h
    · cases h
  · rintro ⟨⟨settings, outputs, duration, endCondition, inception⟩, inRange, shortest, longest⟩
    rw [endConditionOf_eq_some.2 endCondition, inceptionOf_eq_some.2 inception]
    have fits : r.outputs < 16 := outputs ▸ c.outputs.isLt
    have all : Chan.all.all (fun ch => settingInRange ch (r.settings.get ch)) = true :=
      List.all_eq_true.2 fun ch _ => settings ▸ inRange ch
    have mask : BitVec.ofNat 4 r.outputs = c.outputs := by rw [← outputs, BitVec.ofNat_toNat, BitVec.setWidth_eq]
    rw [duration] at shortest longest
    simp only [all, fits, shortest, longest, decide_true, Bool.and_self, if_true, mask]
    rw [← settings, ← duration]

theorem settingInRange_iff (c : Chan) (k : ChannelSetting) : settingInRange c k = true ↔
    k.amplitude ≤ (if c.number ≤ 4 then 30000 else 32000) ∧ k.angle ≤ 35999 ∧ 5000 ≤ k.frequency ∧
      k.frequency ≤ 500000 := by
  have top : c.kindMaximum = if c.number ≤ 4 then 30000 else 32000 := by cases c <;> rfl
  simp only [settingInRange, top, Bool.and_eq_true, decide_eq_true_eq, and_assoc]

/-! ## Characteristics -/

theorem breakpointsOrdered_iff (bs : List (Nat × Nat)) : breakpointsOrdered bs = true ↔ bs.Pairwise Follows := by
  refine ⟨pairwise_follows_of_breakpointsOrdered, fun ordered => ?_⟩
  induction bs with
  | nil => rfl
  | cons b bs ih =>
    cases bs with
    | nil => rfl
    | cons d rest =>
      have first := List.rel_of_pairwise_cons ordered List.mem_cons_self
      simp only [breakpointsOrdered, Bool.and_eq_true, decide_eq_true_eq]
      exact ⟨first, ih ordered.of_cons⟩

/-- A raw curve content names a content, field by field (R26). -/
structure CurveNamed (r : RawCurve) (c : CurveContent) : Prop where
  quantity : r.quantity = c.quantity.code
  pickup : c.pickup = r.pickup
  breakpoints : c.breakpoints = r.breakpoints

/-- A curve content within its ranges (R26). -/
structure CurveContent.InRange (c : CurveContent) : Prop where
  pickup : 10 ≤ c.pickup ∧ c.pickup ≤ 32000
  length : 2 ≤ c.breakpoints.length ∧ c.breakpoints.length ≤ 24
  ranges : ∀ b ∈ c.breakpoints, 1000 ≤ b.1 ∧ b.1 ≤ 65535 ∧ 1000 ≤ b.2 ∧ b.2 ≤ 600000000
  ordered : c.breakpoints.Pairwise Follows

theorem checkCurve_eq_some {r : RawCurve} {c : CurveContent} : checkCurve r = some c ↔ CurveNamed r c ∧ c.InRange := by
  unfold checkCurve
  constructor
  · intro h
    split at h
    · rename_i q hq
      split at h
      · rename_i passed
        simp only [Bool.and_eq_true, List.all_eq_true, decide_eq_true_eq, and_assoc] at passed
        obtain ⟨least, most, few, many, ranges, ordered⟩ := passed
        cases h
        exact ⟨⟨quantityOf_eq_some.1 hq, rfl, rfl⟩, ⟨least, most⟩, ⟨few, many⟩, ranges,
          (breakpointsOrdered_iff _).1 ordered⟩
      · cases h
    · cases h
  · rintro ⟨⟨quantity, pickup, breakpoints⟩, ⟨least, most⟩, ⟨few, many⟩, ranges, ordered⟩
    rw [quantityOf_eq_some.2 quantity]
    rw [pickup] at least most
    rw [breakpoints] at few many ranges
    have ordered := (breakpointsOrdered_iff _).2 ordered
    rw [breakpoints] at ordered
    have all : (r.breakpoints.all fun b => 1000 ≤ b.1 && b.1 ≤ 65535 && 1000 ≤ b.2 && b.2 ≤ 600000000) = true := by
      simpa only [List.all_eq_true, Bool.and_eq_true, decide_eq_true_eq, and_assoc] using ranges
    simp only [least, most, few, many, all, ordered, decide_true, Bool.and_self, if_true]
    rw [← pickup, ← breakpoints]

/-! ## Test points -/

/-- What the start mode and its fields name (R6). -/
def StartNamed (r : RawPoint) : StartMode → Prop
  | .immediate => r.startMode = 0
  | .atTime day second offset => r.startMode = 1 ∧ r.day = day ∧ r.second = second ∧ r.offset = offset

/-- A start mode within its ranges (R6). -/
def StartMode.InRange : StartMode → Prop
  | .immediate => True
  | .atTime day second offset => day ≤ 65535 ∧ second ≤ 86399 ∧ offset ≤ 999999

theorem startModeOf_eq_some {r : RawPoint} {m : StartMode} :
    startModeOf r = some m ↔ StartNamed r m ∧ m.InRange := by
  unfold startModeOf
  constructor
  · intro h
    split at h
    · cases h
      exact ⟨‹_›, trivial⟩
    · split at h
      · rename_i mode passed
        simp only [Bool.and_eq_true, decide_eq_true_eq, and_assoc] at passed
        cases h
        exact ⟨⟨mode, rfl, rfl, rfl⟩, passed⟩
      · cases h
    · cases h
  · rintro ⟨names, range⟩
    cases m with
    | immediate => simp only [show r.startMode = 0 from names]
    | atTime day second offset =>
      obtain ⟨mode, rfl, rfl, rfl⟩ := names
      obtain ⟨a, b, c⟩ := range
      simp only [mode, a, b, c, decide_true, Bool.and_self, if_true]

/-- What the expectation's fields name (R7). -/
def ExpectationNamed (r : RawPoint) : Expectation → Prop
  | .none => r.expectation = 0
  | .fixed time => r.expectation = 1 ∧ r.expectedTime = time
  | .curve h => r.expectation = 2 ∧ r.characteristic = h
  | .noTrip => r.expectation = 3

/-- An expectation within its ranges: a present characteristic, and a monitored input but for NONE (R7). -/
def Expectation.InRange (curves : Table Characteristic) (monitored : Nat) : Expectation → Prop
  | .none => True
  | .fixed time => 1000 ≤ time ∧ time ≤ 600000000 ∧ monitored ≠ 0
  | .curve h => (curves.at? h).isSome ∧ monitored ≠ 0
  | .noTrip => monitored ≠ 0

theorem expectationOf_eq_some {curves : Table Characteristic} {r : RawPoint} {e : Expectation} :
    expectationOf curves r = some e ↔ ExpectationNamed r e ∧ e.InRange curves r.monitored := by
  unfold expectationOf
  constructor
  · intro h
    split at h
    · cases h
      exact ⟨‹_›, trivial⟩
    · split at h
      · rename_i mode passed
        simp only [Bool.and_eq_true, decide_eq_true_eq, and_assoc] at passed
        cases h
        exact ⟨⟨mode, rfl⟩, passed⟩
      · cases h
    · split at h
      · rename_i mode passed
        simp only [Bool.and_eq_true, decide_eq_true_eq] at passed
        cases h
        exact ⟨⟨mode, rfl⟩, passed⟩
      · cases h
    · split at h
      · rename_i mode passed
        cases h
        exact ⟨mode, passed⟩
      · cases h
    · cases h
  · rintro ⟨names, range⟩
    cases e with
    | none => simp only [show r.expectation = 0 from names]
    | fixed time =>
      obtain ⟨mode, rfl⟩ := names
      obtain ⟨a, b, c⟩ := range
      simp only [mode, a, b, c, decide_true, Bool.and_self, if_true, ne_eq, not_false_eq_true]
    | curve h =>
      obtain ⟨mode, rfl⟩ := names
      obtain ⟨a, b⟩ := range
      simp only [mode, a, b, decide_true, Bool.and_self, if_true, ne_eq, not_false_eq_true]
    | noTrip =>
      have range : r.monitored ≠ 0 := range
      simp only [show r.expectation = 3 from names, range, if_true, ne_eq, not_false_eq_true]

/-- The varied set and the kind's largest code (R8). -/
def VariedRange (mask top : Nat) : Prop :=
  1 ≤ mask ∧ mask ≤ 15 ∧ top = 30000 ∨ 16 ≤ mask ∧ mask ≤ 255 ∧ mask % 16 = 0 ∧ top = 32000

theorem variedMaximum_eq_some {mask top : Nat} : variedMaximum mask = some top ↔ VariedRange mask top := by
  unfold variedMaximum VariedRange
  split
  · simp only [reduceCtorEq, false_iff]
    omega
  · split
    · simp only [Option.some.injEq, Config.voltageMaximum]
      omega
    · split
      · simp only [Option.some.injEq, Config.currentMaximum]
        omega
      · simp only [reduceCtorEq, false_iff]
        omega

/-- What the search fields name (R8). -/
structure SearchNamed (r : RawPoint) (k : SearchParams) : Prop where
  varied : r.varied = k.varied.toNat
  lower : r.lower = k.lower
  upper : r.upper = k.upper
  resolution : r.resolution = k.resolution
  maximumShots : r.maximumShots = k.maximumShots
  policy : r.policy = k.policy.code
  boundary : r.boundary = k.boundary
  tolerancePercent : r.searchPercent = k.tolerancePercent
  toleranceAbsolute : r.searchAbsolute = k.toleranceAbsolute

/-- Search fields within their ranges (R8). -/
structure SearchParams.InRange (k : SearchParams) (top : Nat) : Prop where
  varied : VariedRange k.varied.toNat top
  limits : k.lower < k.upper ∧ k.upper ≤ top
  resolution : 1 ≤ k.resolution ∧ k.resolution ≤ top
  shots : 3 ≤ k.maximumShots ∧ k.maximumShots ≤ 40
  boundary : k.boundary ≤ top
  tolerancePercent : k.tolerancePercent ≤ 250
  toleranceAbsolute : k.toleranceAbsolute ≤ top

theorem searchParamsOf_eq_some {r : RawPoint} {k : SearchParams} : searchParamsOf r = some k ↔
    SearchNamed r k ∧ (∃ top, k.InRange top) ∧ r.monitored ≠ 0 ∧ r.startMode = 0 := by
  unfold searchParamsOf
  constructor
  · intro h
    split at h
    · rename_i top policy ht hp
      split at h
      · rename_i passed
        simp only [Bool.and_eq_true, decide_eq_true_eq, and_assoc] at passed
        obtain ⟨less, within, fine, coarse, few, many, boundary, percent, absolute, monitored, mode⟩ := passed
        have varied := variedMaximum_eq_some.1 ht
        have mask : (BitVec.ofNat 8 r.varied).toNat = r.varied := by
          refine Nat.mod_eq_of_lt ?_
          rcases varied with v | v <;> omega
        cases h
        exact ⟨⟨mask.symm, rfl, rfl, rfl, rfl, policyOf_eq_some.1 hp, rfl, rfl, rfl⟩,
          ⟨top, ⟨mask.symm ▸ varied, ⟨less, within⟩, ⟨fine, coarse⟩, ⟨few, many⟩, boundary, percent, absolute⟩⟩,
          monitored, mode⟩
      · cases h
    · cases h
  · rintro ⟨⟨varied, lower, upper, resolution, shots, policy, boundary, percent, absolute⟩,
      ⟨top, range⟩, monitored, mode⟩
    obtain ⟨inRange, ⟨less, within⟩, ⟨fine, coarse⟩, ⟨few, many⟩, found, share, most⟩ := range
    rw [variedMaximum_eq_some.2 (varied ▸ inRange), policyOf_eq_some.2 policy]
    have mask : BitVec.ofNat 8 k.varied.toNat = k.varied := by rw [BitVec.ofNat_toNat, BitVec.setWidth_eq]
    simp only [varied, lower, upper, resolution, shots, boundary, percent, absolute, mode, monitored, less, within, fine,
      coarse, few, many, found, share, most, mask, decide_true, Bool.and_self, if_true, ne_eq, not_false_eq_true]

/-- What the kind and its own fields name (R7, R8). -/
def KindNamed (r : RawPoint) : Kind → Prop
  | .shot e percent absolute =>
    r.kind = 0 ∧ ExpectationNamed r e ∧ r.tolerancePercent = percent ∧ r.toleranceAbsolute = absolute
  | .search k => r.kind = 1 ∧ SearchNamed r k

/-- A kind within its ranges; a search needs a monitored input and an immediate start (R7, R8). -/
def Kind.InRange (curves : Table Characteristic) (monitored startMode : Nat) : Kind → Prop
  | .shot e percent absolute => e.InRange curves monitored ∧ percent ≤ 250 ∧ absolute ≤ 1000000
  | .search k => (∃ top, k.InRange top) ∧ monitored ≠ 0 ∧ startMode = 0

theorem kindOf_eq_some {curves : Table Characteristic} {r : RawPoint} {k : Kind} :
    kindOf curves r = some k ↔ KindNamed r k ∧ k.InRange curves r.monitored r.startMode := by
  unfold kindOf
  constructor
  · intro h
    split at h
    · split at h
      · rename_i e he
        split at h
        · rename_i passed
          simp only [Bool.and_eq_true, decide_eq_true_eq] at passed
          obtain ⟨names, range⟩ := expectationOf_eq_some.1 he
          cases h
          exact ⟨⟨‹_›, names, rfl, rfl⟩, range, passed⟩
        · cases h
      · cases h
    · obtain ⟨q, hq, rfl⟩ := Option.map_eq_some_iff.1 h
      obtain ⟨names, range⟩ := searchParamsOf_eq_some.1 hq
      exact ⟨⟨‹_›, names⟩, range⟩
    · cases h
  · rintro ⟨names, range⟩
    cases k with
    | shot e percent absolute =>
      obtain ⟨kind, names, rfl, rfl⟩ := names
      obtain ⟨range, a, b⟩ := range
      have expected := expectationOf_eq_some.2 ⟨names, range⟩
      simp only [kind, expected, a, b, decide_true, Bool.and_self, if_true]
    | search q =>
      obtain ⟨kind, names⟩ := names
      have params := searchParamsOf_eq_some.2 ⟨names, range⟩
      simp only [kind, params, Option.map_some]

/-- A raw point content names a content, the fields of its kind, start mode and expectation alone (R6 to R8). -/
structure PointNamed (r : RawPoint) (c : PointContent) : Prop where
  tag : c.tag = r.tag
  states : c.states = r.states
  faultPosition : c.faultPosition = r.faultPosition
  monitored : c.monitored.toNat = r.monitored
  combine : r.combine = c.combine.code
  start : StartNamed r c.start
  kind : KindNamed r c.kind

/-- The code of a start mode (R171). -/
def StartMode.code : StartMode → Nat
  | .immediate => 0
  | .atTime _ _ _ => 1

theorem StartNamed.code {r : RawPoint} {m : StartMode} (h : StartNamed r m) : r.startMode = m.code := by
  cases m with
  | immediate => exact h
  | atTime day second offset => exact h.1

/-- A point content within its ranges, against the states and characteristics present (R6 to R8). -/
structure PointContent.InRange (states : Table StateRecord) (curves : Table Characteristic) (c : PointContent) : Prop where
  tag : c.tag ≠ 0 ∧ c.tag < 2 ^ 32
  length : 1 ≤ c.states.length ∧ c.states.length ≤ 8
  present : ∀ h ∈ c.states, (states.at? h).isSome
  faultPosition : 1 ≤ c.faultPosition ∧ c.faultPosition ≤ c.states.length
  start : c.start.InRange
  kind : c.kind.InRange curves c.monitored.toNat c.start.code

theorem checkPoint_eq_some {states : Table StateRecord} {curves : Table Characteristic} {r : RawPoint}
    {c : PointContent} : checkPoint states curves r = some c ↔ PointNamed r c ∧ c.InRange states curves := by
  unfold checkPoint
  constructor
  · intro h
    split at h
    · rename_i start combine kind hs hc hk
      split at h
      · rename_i passed
        simp only [Bool.and_eq_true, List.all_eq_true, decide_eq_true_eq, and_assoc] at passed
        obtain ⟨tag, short, some, few, present, first, last, monitored⟩ := passed
        have mask : (BitVec.ofNat 10 r.monitored).toNat = r.monitored := Nat.mod_eq_of_lt monitored
        obtain ⟨namesStart, rangeStart⟩ := startModeOf_eq_some.1 hs
        obtain ⟨namesKind, rangeKind⟩ := kindOf_eq_some.1 hk
        cases h
        refine ⟨⟨rfl, rfl, rfl, mask, combineOf_eq_some.1 hc, namesStart, namesKind⟩, ⟨tag, short⟩, ⟨some, few⟩, present,
          ⟨first, last⟩, rangeStart, ?_⟩
        show kind.InRange curves (BitVec.ofNat 10 r.monitored).toNat start.code
        rw [mask, ← namesStart.code]
        exact rangeKind
      · cases h
    · cases h
  · rintro ⟨⟨tag, list, position, monitored, combine, start, kind⟩,
      ⟨nonzero, short⟩, ⟨some, few⟩, present, ⟨first, last⟩, rangeStart, rangeKind⟩
    rw [monitored, ← start.code] at rangeKind
    rw [startModeOf_eq_some.2 ⟨start, rangeStart⟩, combineOf_eq_some.2 combine, kindOf_eq_some.2 ⟨kind, rangeKind⟩]
    rw [tag] at nonzero short
    rw [list] at some few present last
    rw [position] at first last
    have fits : r.monitored < 1024 := monitored ▸ c.monitored.isLt
    have mask : BitVec.ofNat 10 r.monitored = c.monitored := by rw [← monitored, BitVec.ofNat_toNat, BitVec.setWidth_eq]
    have all : (r.states.all fun h => (states.at? h).isSome) = true := List.all_eq_true.2 present
    simp only [nonzero, short, some, few, all, first, last, fits, mask, decide_true, Bool.and_self, if_true, ne_eq,
      not_false_eq_true]
    rw [← tag, ← list, ← position]

/-! ## The ranges of the raw contents -/

theorem EndCondition.code_le (e : EndCondition) : e.code ≤ 1 := by cases e <;> decide

theorem checkState_isSome (r : RawState) : (checkState r).isSome ↔
    (∀ c : Chan, (r.settings.get c).amplitude ≤ (if c.number ≤ 4 then 30000 else 32000) ∧
      (r.settings.get c).angle ≤ 35999 ∧ 5000 ≤ (r.settings.get c).frequency ∧ (r.settings.get c).frequency ≤ 500000) ∧
    r.outputs ≤ 15 ∧ 100 ≤ r.duration ∧ r.duration ≤ 600000000 ∧ r.endCondition ≤ 1 ∧
    (r.inception = 0 ∨ r.inception = 1 ∧ r.theta ≤ 35999) := by
  rw [Option.isSome_iff_exists]
  constructor
  · rintro ⟨c, h⟩
    obtain ⟨⟨settings, outputs, duration, endCondition, inception⟩, inRange, shortest, longest⟩ := checkState_eq_some.1 h
    refine ⟨fun ch => (settingInRange_iff ch _).1 (settings ▸ inRange ch), ?_, duration ▸ shortest, duration ▸ longest,
      endCondition ▸ c.endCondition.code_le, ?_⟩
    · have := c.outputs.isLt
      omega
    · cases hi : c.inception with
      | continuous =>
        rw [hi] at inception
        exact .inl inception
      | angle a =>
        rw [hi] at inception
        obtain ⟨code, rfl, range⟩ := inception
        exact .inr ⟨code, range⟩
  · rintro ⟨settings, outputs, shortest, longest, endCondition, inception⟩
    refine ⟨{ settings := r.settings, outputs := BitVec.ofNat 4 r.outputs, duration := r.duration
              endCondition := if r.endCondition = 0 then .time else .input
              inception := if r.inception = 0 then .continuous else .angle r.theta },
      checkState_eq_some.2 ⟨⟨rfl, Nat.mod_eq_of_lt (by omega), rfl, ?_, ?_⟩,
        ⟨fun ch => (settingInRange_iff ch _).2 (settings ch), shortest, longest⟩⟩⟩
    · rcases Nat.le_one_iff_eq_zero_or_eq_one.1 endCondition with e | e <;> rw [e] <;> rfl
    · show InceptionNamed r.inception r.theta (if r.inception = 0 then .continuous else .angle r.theta)
      rcases inception with zero | ⟨one, range⟩
      · rw [if_pos zero]
        exact zero
      · rw [if_neg (by omega)]
        exact ⟨one, rfl, range⟩

theorem checkCurve_isSome (r : RawCurve) : (checkCurve r).isSome ↔
    r.quantity ∈ [0, 5, 6, 7, 8] ∧ 10 ≤ r.pickup ∧ r.pickup ≤ 32000 ∧ 2 ≤ r.breakpoints.length ∧
    r.breakpoints.length ≤ 24 ∧ (∀ b ∈ r.breakpoints, 1000 ≤ b.1 ∧ b.1 ≤ 65535 ∧ 1000 ≤ b.2 ∧ b.2 ≤ 600000000) ∧
    r.breakpoints.Pairwise Follows := by
  rw [Option.isSome_iff_exists]
  constructor
  · rintro ⟨c, h⟩
    obtain ⟨⟨quantity, pickup, breakpoints⟩, ⟨least, most⟩, ⟨few, many⟩, ranges, ordered⟩ := checkCurve_eq_some.1 h
    rw [pickup] at least most
    rw [breakpoints] at few many ranges ordered
    refine ⟨?_, least, most, few, many, ranges, ordered⟩
    rw [quantity]
    cases c.quantity <;> decide
  · rintro ⟨quantity, least, most, few, many, ranges, ordered⟩
    obtain ⟨q, hq⟩ : ∃ q : Quantity, r.quantity = q.code := by
      simp only [List.mem_cons, List.not_mem_nil, or_false] at quantity
      rcases quantity with e | e | e | e | e
      · exact ⟨.phaseMax, e⟩
      · exact ⟨.i1, e⟩
      · exact ⟨.i2, e⟩
      · exact ⟨.i3, e⟩
      · exact ⟨.ix, e⟩
    exact ⟨{ quantity := q, pickup := r.pickup, breakpoints := r.breakpoints },
      checkCurve_eq_some.2 ⟨⟨hq, rfl, rfl⟩, ⟨least, most⟩, ⟨few, many⟩, ranges, ordered⟩⟩

theorem expectationOf_isSome (curves : Table Characteristic) (r : RawPoint) : (expectationOf curves r).isSome ↔
    r.expectation = 0 ∨ r.monitored ≠ 0 ∧
      (r.expectation = 1 ∧ 1000 ≤ r.expectedTime ∧ r.expectedTime ≤ 600000000 ∨
        r.expectation = 2 ∧ (curves.at? r.characteristic).isSome ∨ r.expectation = 3) := by
  rw [Option.isSome_iff_exists]
  constructor
  · rintro ⟨e, h⟩
    obtain ⟨names, range⟩ := expectationOf_eq_some.1 h
    cases e with
    | none => exact .inl names
    | fixed time =>
      obtain ⟨mode, rfl⟩ := names
      obtain ⟨a, b, c⟩ := range
      exact .inr ⟨c, .inl ⟨mode, a, b⟩⟩
    | curve h =>
      obtain ⟨mode, rfl⟩ := names
      exact .inr ⟨range.2, .inr (.inl ⟨mode, range.1⟩)⟩
    | noTrip => exact .inr ⟨range, .inr (.inr names)⟩
  · rintro (none | ⟨monitored, ⟨mode, a, b⟩ | ⟨mode, present⟩ | mode⟩)
    · exact ⟨.none, expectationOf_eq_some.2 ⟨none, trivial⟩⟩
    · exact ⟨.fixed r.expectedTime, expectationOf_eq_some.2 ⟨⟨mode, rfl⟩, a, b, monitored⟩⟩
    · exact ⟨.curve r.characteristic, expectationOf_eq_some.2 ⟨⟨mode, rfl⟩, present, monitored⟩⟩
    · exact ⟨.noTrip, expectationOf_eq_some.2 ⟨mode, monitored⟩⟩

theorem searchParamsOf_isSome (r : RawPoint) : (searchParamsOf r).isSome ↔
    r.startMode = 0 ∧ r.monitored ≠ 0 ∧ r.lower < r.upper ∧ 1 ≤ r.resolution ∧ 3 ≤ r.maximumShots ∧
    r.maximumShots ≤ 40 ∧ r.policy ≤ 1 ∧ r.searchPercent ≤ 250 ∧
    ∃ top, VariedRange r.varied top ∧ r.upper ≤ top ∧ r.resolution ≤ top ∧ r.boundary ≤ top ∧ r.searchAbsolute ≤ top := by
  rw [Option.isSome_iff_exists]
  constructor
  · rintro ⟨k, h⟩
    obtain ⟨⟨varied, lower, upper, resolution, shots, policy, boundary, percent, absolute⟩,
      ⟨top, inRange, ⟨less, within⟩, ⟨fine, coarse⟩, ⟨few, many⟩, found, share, most⟩, monitored, mode⟩ :=
        searchParamsOf_eq_some.1 h
    rw [lower, upper, resolution, shots, policy, percent, boundary, absolute, varied]
    have code : k.policy.code ≤ 1 := by cases k.policy <;> decide
    exact ⟨mode, monitored, less, fine, few, many, code, share, top, inRange, within, coarse, found, most⟩
  · rintro ⟨mode, monitored, less, fine, few, many, policy, share, top, varied, within, coarse, found, most⟩
    have mask : (BitVec.ofNat 8 r.varied).toNat = r.varied := by
      refine Nat.mod_eq_of_lt ?_
      rcases varied with v | v <;> omega
    refine ⟨{ varied := BitVec.ofNat 8 r.varied, lower := r.lower, upper := r.upper, resolution := r.resolution
              maximumShots := r.maximumShots, policy := if r.policy = 0 then .suspend else .abort
              boundary := r.boundary, tolerancePercent := r.searchPercent, toleranceAbsolute := r.searchAbsolute },
      searchParamsOf_eq_some.2 ⟨⟨mask.symm, rfl, rfl, rfl, rfl, ?_, rfl, rfl, rfl⟩,
        ⟨top, mask.symm ▸ varied, ⟨less, within⟩, ⟨fine, coarse⟩, ⟨few, many⟩, found, share, most⟩, monitored, mode⟩⟩
    rcases Nat.le_one_iff_eq_zero_or_eq_one.1 policy with e | e <;> rw [e] <;> rfl

theorem startModeOf_isSome (r : RawPoint) : (startModeOf r).isSome ↔
    r.startMode = 0 ∨ r.startMode = 1 ∧ r.day ≤ 65535 ∧ r.second ≤ 86399 ∧ r.offset ≤ 999999 := by
  rw [Option.isSome_iff_exists]
  constructor
  · rintro ⟨m, h⟩
    obtain ⟨names, range⟩ := startModeOf_eq_some.1 h
    cases m with
    | immediate => exact .inl names
    | atTime day second offset =>
      obtain ⟨mode, rfl, rfl, rfl⟩ := names
      exact .inr ⟨mode, range⟩
  · rintro (mode | ⟨mode, range⟩)
    · exact ⟨.immediate, startModeOf_eq_some.2 ⟨mode, trivial⟩⟩
    · exact ⟨.atTime r.day r.second r.offset, startModeOf_eq_some.2 ⟨⟨mode, rfl, rfl, rfl⟩, range⟩⟩

theorem combineOf_isSome (k : Nat) : (combineOf k).isSome ↔ k ≤ 1 := by
  match k with
  | 0 => simp [combineOf]
  | 1 => simp [combineOf]
  | n + 2 => simp [combineOf]

theorem kindOf_isSome (curves : Table Characteristic) (r : RawPoint) : (kindOf curves r).isSome ↔
    r.kind = 0 ∧ (expectationOf curves r).isSome ∧ r.tolerancePercent ≤ 250 ∧ r.toleranceAbsolute ≤ 1000000 ∨
      r.kind = 1 ∧ (searchParamsOf r).isSome := by
  unfold kindOf
  split
  · rename_i kind
    cases expectationOf curves r with
    | none => simp [kind]
    | some e => simp [kind]
  · rename_i kind
    simp [kind]
  · rename_i other shot search
    simp only [Option.isSome_none, Bool.false_eq_true, false_iff, not_or, not_and]
    exact ⟨fun kind => absurd kind shot, fun kind => absurd kind search⟩

theorem checkPoint_isSome (states : Table StateRecord) (curves : Table Characteristic) (r : RawPoint) :
    (checkPoint states curves r).isSome ↔ (startModeOf r).isSome ∧ (combineOf r.combine).isSome ∧
      (kindOf curves r).isSome ∧ r.tag ≠ 0 ∧ r.tag < 2 ^ 32 ∧ 1 ≤ r.states.length ∧ r.states.length ≤ 8 ∧
      (∀ h ∈ r.states, (states.at? h).isSome) ∧ 1 ≤ r.faultPosition ∧ r.faultPosition ≤ r.states.length ∧
      r.monitored < 1024 := by
  unfold checkPoint
  cases startModeOf r with
  | none => simp
  | some start =>
    cases combineOf r.combine with
    | none => simp
    | some combine =>
      cases kindOf curves r with
      | none => simp
      | some kind => simp [and_assoc]

/-- Settles O19: a check passes exactly where some content within its ranges is named, which is then that content. -/
theorem contentChecksAreExact : Obligations.ContentChecksAreExact := by
  refine ⟨⟨checkState_isSome, fun raw c h => ?_, checkCurve_isSome, fun raw c h => ?_⟩, fun states curves r => ?_,
    fun states curves r c h => ?_⟩
  · obtain ⟨⟨settings, outputs, duration, endCondition, inception⟩, -⟩ := checkState_eq_some.1 h
    refine ⟨settings, outputs, duration, ?_, ?_⟩
    · rw [endCondition]
      cases c.endCondition <;> rfl
    · cases hi : c.inception with
      | continuous =>
        rw [hi] at inception
        exact (if_pos inception).symm
      | angle a =>
        rw [hi] at inception
        obtain ⟨code, rfl, -⟩ := inception
        exact (if_neg (by omega)).symm
  · obtain ⟨⟨quantity, pickup, breakpoints⟩, -⟩ := checkCurve_eq_some.1 h
    exact ⟨quantity.symm, pickup, breakpoints⟩
  · rw [checkPoint_isSome, startModeOf_isSome, combineOf_isSome, kindOf_isSome, expectationOf_isSome,
      searchParamsOf_isSome]
    simp only [VariedRange]
    constructor
    · rintro ⟨start, combine, kind, tag, short, some, few, present, first, last, monitored⟩
      refine ⟨tag, short, some, few, present, first, last, by omega, combine, start, ?_⟩
      rcases kind with ⟨shot, expected, percent, absolute⟩ | search
      · exact .inl ⟨shot, percent, absolute, expected⟩
      · exact .inr search
    · rintro ⟨tag, short, some, few, present, first, last, monitored, combine, start, kind⟩
      refine ⟨start, combine, ?_, tag, short, some, few, present, first, last, by omega⟩
      rcases kind with ⟨shot, percent, absolute, expected⟩ | search
      · exact .inl ⟨shot, expected, percent, absolute⟩
      · exact .inr search
  · obtain ⟨⟨tag, list, position, monitored, combine, start, kind⟩, inRange⟩ := checkPoint_eq_some.1 h
    refine ⟨tag, list, position, monitored, ?_, ?_, fun shot => ?_, fun search => ?_⟩
    · rw [combine]
      cases c.combine <;> rfl
    · cases hs : c.start with
      | immediate =>
        rw [hs] at start
        exact (if_pos start).symm
      | atTime day second offset =>
        rw [hs] at start
        obtain ⟨mode, rfl, rfl, rfl⟩ := start
        exact (if_neg (by omega)).symm
    · cases hk : c.kind with
      | shot e percent absolute =>
        rw [hk] at kind
        obtain ⟨-, names, rfl, rfl⟩ := kind
        congr 1
        cases e with
        | none => exact (if_pos names).symm
        | fixed time =>
          obtain ⟨mode, rfl⟩ := names
          simp [mode]
        | curve k =>
          obtain ⟨mode, rfl⟩ := names
          simp [mode]
        | noTrip => simp [show r.expectation = 3 from names]
      | search k =>
        rw [hk] at kind
        exact absurd (shot.symm.trans kind.1) (by decide)
    · cases hk : c.kind with
      | shot e percent absolute =>
        rw [hk] at kind
        exact absurd (search.symm.trans kind.1) (by decide)
      | search k =>
        rw [hk] at kind
        obtain ⟨-, varied, lower, upper, resolution, shots, policy, boundary, percent, absolute⟩ := kind
        have mask : BitVec.ofNat 8 r.varied = k.varied := by rw [varied, BitVec.ofNat_toNat, BitVec.setWidth_eq]
        have code : (if r.policy = 0 then Policy.suspend else .abort) = k.policy := by
          rw [policy]
          cases k.policy <;> rfl
        rw [mask, code, lower, upper, resolution, shots, boundary, percent, absolute]

end Sys2Proof.Machine

/-! Contents as they travel: the layouts of state, curve and point contents, and their reading. -/

namespace Sys2Proof.Machine

/-! ## Lists of entries -/

theorem map_range_eq {α : Type} {l : List α} {f : Nat → α} (h : ∀ (j : Nat) (a : α), l[j]? = some a → f j = a) :
    (List.range l.length).map f = l := by
  refine List.ext_getElem (by simp) fun j _ hj => ?_
  rw [List.getElem_map, List.getElem_range]
  exact h j l[j] (List.getElem?_eq_getElem hj)

/-! ## State contents -/

/-- One channel's setting as it is sent (R171). -/
def settingPayload (k : ChannelSetting) : List Byte := bytesOf 2 k.amplitude ++ bytesOf 2 k.angle ++ bytesOf 3 k.frequency

theorem settingPayload_length (k : ChannelSetting) : (settingPayload k).length = 7 := by simp [settingPayload]

/-- The inception and its angle as they are sent (R171). -/
def inceptionPayload : Inception → List Byte
  | .continuous => bytesOf 1 0 ++ bytesOf 2 0
  | .angle theta => bytesOf 1 1 ++ bytesOf 2 theta

section
variable (c : StateContent)

theorem StateContent.payload_eq : c.payload = (Chan.all.flatMap fun ch => settingPayload (c.settings.get ch)) ++
    (bytesOf 1 c.outputs.toNat ++ (bytesOf 4 c.duration ++ (bytesOf 1 c.endCondition.code ++
      inceptionPayload c.inception))) := by
  rw [StateContent.payload]
  simp only [List.append_assoc]
  cases c.inception <;> rfl

theorem StateContent.settings_length : (Chan.all.flatMap fun ch => settingPayload (c.settings.get ch)).length = 56 := by
  rw [length_flatMap (f := fun ch => settingPayload (c.settings.get ch)) fun ch => settingPayload_length _]
  rfl

theorem StateContent.payload_length : c.payload.length = 65 := by
  rw [StateContent.payload_eq, List.length_append, StateContent.settings_length]
  cases c.inception <;> simp [inceptionPayload]

theorem StateContent.fieldAt_setting (ch : Chan) {k width : Nat} (inside : k + width ≤ 7) :
    fieldAt c.payload (7 * (ch.number - 1) + k) width = fieldAt (settingPayload (c.settings.get ch)) k width := by
  have listed : Chan.all[ch.number - 1]? = some ch := by cases ch <;> rfl
  rw [StateContent.payload_eq]
  exact fieldAt_flatMap (f := fun ch => settingPayload (c.settings.get ch)) (fun ch => settingPayload_length _) listed
    inside _

theorem StateContent.fieldAt_rest {k width : Nat} : fieldAt c.payload (56 + k) width =
    fieldAt (bytesOf 1 c.outputs.toNat ++ (bytesOf 4 c.duration ++ (bytesOf 1 c.endCondition.code ++
      inceptionPayload c.inception))) k width := by
  rw [StateContent.payload_eq, fieldAt_append_right _ _ (by rw [c.settings_length]; omega), c.settings_length,
    Nat.add_sub_cancel_left]

variable {c}

theorem settingAt_payload (inRange : c.InRange) (ch : Chan) :
    settingAt c.payload (7 * (ch.number - 1)) = c.settings.get ch := by
  obtain ⟨amplitude, angle, -, frequency⟩ := (settingInRange_iff ch _).1 (inRange.settings ch)
  have amplitude : (c.settings.get ch).amplitude < 65536 := by
    refine amplitude.trans_lt ?_
    split <;> decide
  have first : fieldAt c.payload (7 * (ch.number - 1)) 2 = (c.settings.get ch).amplitude % 65536 :=
    (c.fieldAt_setting ch (k := 0) (by decide)).trans (by simp [settingPayload])
  have second : fieldAt c.payload (7 * (ch.number - 1) + 2) 2 = (c.settings.get ch).angle % 65536 :=
    (c.fieldAt_setting ch (by decide)).trans (by simp [settingPayload, fieldAt_behind])
  have third : fieldAt c.payload (7 * (ch.number - 1) + 4) 3 = (c.settings.get ch).frequency % 16777216 :=
    (c.fieldAt_setting ch (by decide)).trans (by simp [settingPayload, fieldAt_behind])
  rw [settingAt, first, second, third, Nat.mod_eq_of_lt amplitude, Nat.mod_eq_of_lt (by omega),
    Nat.mod_eq_of_lt (by omega)]

theorem inceptionAt_payload (i : Inception) (range : ∀ a, i = .angle a → a ≤ 35999) :
    InceptionNamed (fieldAt (inceptionPayload i) 0 1) (fieldAt (inceptionPayload i) 1 2) i := by
  cases i with
  | continuous => simp [inceptionPayload, InceptionNamed]
  | angle a =>
    have range := range a rfl
    have code : fieldAt (inceptionPayload (.angle a)) 0 1 = 1 := by simp [inceptionPayload]
    have theta : fieldAt (inceptionPayload (.angle a)) 1 2 = a % 65536 := by simp [inceptionPayload, fieldAt_behind]
    exact ⟨code, theta.trans (Nat.mod_eq_of_lt (by omega)), range⟩

theorem stateAt_payload (inRange : c.InRange) (angles : ∀ a, c.inception = .angle a → a ≤ 35999) :
    StateNamed (stateAt c.payload 0) c where
  settings := by
    refine PerChannel.ext_get fun ch => ?_
    rw [stateAt, PerChannel.get_of, Nat.zero_add, settingAt_payload inRange]
  outputs := by
    have sent : fieldAt c.payload 56 1 = c.outputs.toNat % 256 := (c.fieldAt_rest (k := 0)).trans (fieldAt_front _ _ _)
    have := c.outputs.isLt
    exact (sent.trans (Nat.mod_eq_of_lt (by omega))).symm
  duration := by
    have sent : fieldAt c.payload 57 4 = c.duration % 2 ^ 32 := (c.fieldAt_rest (k := 1)).trans (by simp [fieldAt_behind])
    have := inRange.longest
    exact (sent.trans (Nat.mod_eq_of_lt (by omega))).symm
  endCondition := by
    have sent : fieldAt c.payload 61 1 = c.endCondition.code % 256 := (c.fieldAt_rest (k := 5)).trans (by simp [fieldAt_behind])
    have := c.endCondition.code_le
    exact sent.trans (Nat.mod_eq_of_lt (by omega))
  inception := by
    have code : fieldAt c.payload 62 1 = fieldAt (inceptionPayload c.inception) 0 1 :=
      (c.fieldAt_rest (k := 6)).trans (by simp [fieldAt_behind])
    have theta : fieldAt c.payload 63 2 = fieldAt (inceptionPayload c.inception) 1 2 :=
      (c.fieldAt_rest (k := 7)).trans (by simp [fieldAt_behind])
    show InceptionNamed (fieldAt c.payload 62 1) (fieldAt c.payload 63 2) c.inception
    rw [code, theta]
    exact inceptionAt_payload c.inception angles

theorem checkState_stateAt {r : RawState} (h : checkState r = some c) : checkState (stateAt c.payload 0) = some c := by
  obtain ⟨names, inRange⟩ := checkState_eq_some.1 h
  refine checkState_eq_some.2 ⟨stateAt_payload inRange fun a angle => ?_, inRange⟩
  have inception := names.inception
  rw [angle] at inception
  exact inception.2.2

end

/-! ## Curve contents -/

/-- One breakpoint as it is sent (R171). -/
def breakpointPayload (b : Nat × Nat) : List Byte := bytesOf 2 b.1 ++ bytesOf 4 b.2

theorem breakpointPayload_length (b : Nat × Nat) : (breakpointPayload b).length = 6 := by simp [breakpointPayload]

section
variable (c : CurveContent)

theorem CurveContent.payload_eq : c.payload = bytesOf 1 c.quantity.code ++ (bytesOf 2 c.pickup ++
    (bytesOf 1 c.breakpoints.length ++ c.breakpoints.flatMap breakpointPayload)) := by
  rw [CurveContent.payload]
  simp only [List.append_assoc]
  rfl

theorem CurveContent.payload_length : c.payload.length = 4 + 6 * c.breakpoints.length := by
  rw [CurveContent.payload_eq]
  simp only [List.length_append, bytesOf_length, length_flatMap breakpointPayload_length]
  omega

theorem CurveContent.fieldAt_breakpoint {j : Nat} {b : Nat × Nat} (listed : c.breakpoints[j]? = some b) {k width : Nat}
    (inside : k + width ≤ 6) : fieldAt c.payload (4 + (6 * j + k)) width = fieldAt (breakpointPayload b) k width := by
  have list := fieldAt_flatMap breakpointPayload_length listed inside []
  rw [List.append_nil] at list
  rw [CurveContent.payload_eq, fieldAt_behind _ _ (by omega), fieldAt_behind _ _ (by omega),
    fieldAt_behind _ _ (by omega), ← list]
  refine congrArg (fieldAt _ · width) ?_
  omega

variable {c}

theorem curveAt_payload (inRange : c.InRange) : CurveNamed (curveAt c.payload 0 c.breakpoints.length) c where
  quantity := by
    have sent : fieldAt c.payload 0 1 = c.quantity.code % 256 := by
      rw [c.payload_eq]
      exact fieldAt_front _ _ _
    have code : c.quantity.code < 256 := by cases c.quantity <;> decide
    exact sent.trans (Nat.mod_eq_of_lt code)
  pickup := by
    have sent : fieldAt c.payload 1 2 = c.pickup % 65536 := by
      rw [c.payload_eq]
      simp [fieldAt_behind]
    have := inRange.pickup
    exact (sent.trans (Nat.mod_eq_of_lt (by omega))).symm
  breakpoints := by
    refine (map_range_eq fun j b listed => ?_).symm
    have range := inRange.ranges b (List.mem_of_getElem? listed)
    have first : fieldAt c.payload (0 + 4 + 6 * j) 2 = b.1 % 65536 := by
      rw [Nat.zero_add]
      exact (c.fieldAt_breakpoint listed (k := 0) (by decide)).trans (by simp [breakpointPayload])
    have second : fieldAt c.payload (0 + 6 + 6 * j) 4 = b.2 % 2 ^ 32 := by
      rw [show 0 + 6 + 6 * j = 4 + (6 * j + 2) by omega]
      exact (c.fieldAt_breakpoint listed (by decide)).trans (by simp [breakpointPayload, fieldAt_behind])
    rw [first, second, Nat.mod_eq_of_lt (by omega), Nat.mod_eq_of_lt (by omega)]

theorem checkCurve_curveAt {r : RawCurve} (h : checkCurve r = some c) :
    checkCurve (curveAt c.payload 0 c.breakpoints.length) = some c := by
  obtain ⟨-, inRange⟩ := checkCurve_eq_some.1 h
  exact checkCurve_eq_some.2 ⟨curveAt_payload inRange, inRange⟩

end

/-! ## Point contents -/

theorem StartMode.payload_length (m : StartMode) : m.payload.length = 9 := by cases m <;> simp [StartMode.payload]

theorem Expectation.payload_length (e : Expectation) : e.payload.length = 6 := by
  cases e <;> simp [Expectation.payload]

theorem Kind.payload_length (k : Kind) : k.payload.length = 25 := by
  cases k <;> simp [Kind.payload, Expectation.payload_length]

section
variable (c : PointContent)

theorem PointContent.payload_eq : c.payload = bytesOf 4 c.tag ++ (bytesOf 1 c.kind.code ++ (bytesOf 1 c.faultPosition ++
    (c.start.payload ++ (bytesOf 2 c.monitored.toNat ++ (bytesOf 1 c.combine.code ++ (c.kind.payload ++
      (bytesOf 1 c.states.length ++ c.states.flatMap (bytesOf 1)))))))) := by
  rw [PointContent.payload]
  simp only [List.append_assoc]

theorem PointContent.payload_length : c.payload.length = 44 + c.states.length := by
  rw [PointContent.payload_eq]
  simp only [List.length_append, bytesOf_length, length_flatMap (bytesOf_length 1), StartMode.payload_length,
    Kind.payload_length]
  omega

/-- The fields that every test point has, each in its width (R171). -/
theorem PointContent.fieldAt_common : fieldAt c.payload 0 4 = c.tag % 2 ^ 32 ∧
    fieldAt c.payload 4 1 = c.kind.code % 256 ∧ fieldAt c.payload 5 1 = c.faultPosition % 256 ∧
    fieldAt c.payload 15 2 = c.monitored.toNat % 65536 ∧ fieldAt c.payload 17 1 = c.combine.code % 256 ∧
    fieldAt c.payload 43 1 = c.states.length % 256 := by
  rw [PointContent.payload_eq]
  refine ⟨?_, ?_, ?_, ?_, ?_, ?_⟩ <;>
    simp [fieldAt_append_right, StartMode.payload_length, Kind.payload_length]

theorem PointContent.fieldAt_start {k width : Nat} (inside : k + width ≤ 9) :
    fieldAt c.payload (6 + k) width = fieldAt c.start.payload k width := by
  rw [PointContent.payload_eq, fieldAt_behind _ _ (by omega), fieldAt_behind _ _ (by omega),
    fieldAt_behind _ _ (by omega), fieldAt_append_left _ _ (by rw [StartMode.payload_length]; omega)]
  refine congrArg (fieldAt _ · width) ?_
  omega

theorem PointContent.fieldAt_kind {k width : Nat} (inside : k + width ≤ 25) :
    fieldAt c.payload (18 + k) width = fieldAt c.kind.payload k width := by
  rw [PointContent.payload_eq, fieldAt_behind _ _ (by omega), fieldAt_behind _ _ (by omega),
    fieldAt_behind _ _ (by omega), fieldAt_append_right _ _ (by rw [StartMode.payload_length]; omega),
    StartMode.payload_length, fieldAt_behind _ _ (by omega), fieldAt_behind _ _ (by omega),
    fieldAt_append_left _ _ (by rw [Kind.payload_length]; omega)]
  refine congrArg (fieldAt _ · width) ?_
  omega

theorem PointContent.fieldAt_state {j h : Nat} (listed : c.states[j]? = some h) :
    fieldAt c.payload (44 + j) 1 = h % 256 := by
  have list := fieldAt_flatMap (bytesOf_length 1) listed (k := 0) (width := 1) (by decide) []
  rw [List.append_nil, fieldAt_single] at list
  rw [PointContent.payload_eq, fieldAt_behind _ _ (by omega), fieldAt_behind _ _ (by omega),
    fieldAt_behind _ _ (by omega), fieldAt_append_right _ _ (by rw [StartMode.payload_length]; omega),
    StartMode.payload_length, fieldAt_behind _ _ (by omega), fieldAt_behind _ _ (by omega),
    fieldAt_append_right _ _ (by rw [Kind.payload_length]; omega), Kind.payload_length, fieldAt_behind _ _ (by omega)]
  refine (congrArg (fieldAt _ · 1) ?_).trans list
  omega

end

/-- The start fields, 0 where the mode is IMMEDIATE (R171). -/
theorem StartMode.fieldAt_payload (m : StartMode) :
    fieldAt m.payload 0 1 = m.code ∧ (m = .immediate → fieldAt m.payload 1 2 = 0 ∧ fieldAt m.payload 3 3 = 0 ∧
      fieldAt m.payload 6 3 = 0) ∧
    ∀ day second offset, m = .atTime day second offset → fieldAt m.payload 1 2 = day % 65536 ∧
      fieldAt m.payload 3 3 = second % 16777216 ∧ fieldAt m.payload 6 3 = offset % 16777216 := by
  cases m with
  | immediate => simp [StartMode.payload, StartMode.code, fieldAt_behind]
  | atTime day second offset =>
    refine ⟨by simp [StartMode.payload, StartMode.code], (fun e => nomatch e), ?_⟩
    rintro _ _ _ ⟨⟩
    simp [StartMode.payload, fieldAt_behind]

/-- The expectation fields, 0 where the expectation has none (R171). -/
theorem Expectation.fieldAt_payload (e : Expectation) :
    (e = .none → fieldAt e.payload 0 1 = 0 ∧ fieldAt e.payload 1 4 = 0 ∧ fieldAt e.payload 5 1 = 0) ∧
    (∀ time, e = .fixed time →
      fieldAt e.payload 0 1 = 1 ∧ fieldAt e.payload 1 4 = time % 2 ^ 32 ∧ fieldAt e.payload 5 1 = 0) ∧
    (∀ h, e = .curve h → fieldAt e.payload 0 1 = 2 ∧ fieldAt e.payload 1 4 = 0 ∧ fieldAt e.payload 5 1 = h % 256) ∧
    (e = .noTrip → fieldAt e.payload 0 1 = 3 ∧ fieldAt e.payload 1 4 = 0 ∧ fieldAt e.payload 5 1 = 0) := by
  refine ⟨?_, ?_, ?_, ?_⟩
  · rintro rfl
    simp [Expectation.payload, fieldAt_behind]
  · rintro time rfl
    simp [Expectation.payload, fieldAt_behind]
  · rintro h rfl
    simp [Expectation.payload, fieldAt_behind]
  · rintro rfl
    simp [Expectation.payload, fieldAt_behind]

theorem fieldAt_shot (e : Expectation) (percent absolute : Nat) :
    (∀ k width, k + width ≤ 6 → fieldAt (Kind.shot e percent absolute).payload k width = fieldAt e.payload k width) ∧
    fieldAt (Kind.shot e percent absolute).payload 6 1 = percent % 256 ∧
    fieldAt (Kind.shot e percent absolute).payload 7 4 = absolute % 2 ^ 32 ∧
    fieldAt (Kind.shot e percent absolute).payload 11 14 = 0 := by
  have eq : (Kind.shot e percent absolute).payload =
      e.payload ++ (bytesOf 1 percent ++ (bytesOf 4 absolute ++ bytesOf 14 0)) := by
    simp only [Kind.payload, List.append_assoc]
  rw [eq]
  refine ⟨fun k width inside => fieldAt_append_left _ _ (by rwa [Expectation.payload_length]), ?_, ?_, ?_⟩ <;>
    simp [fieldAt_append_right, Expectation.payload_length]

theorem fieldAt_search (k : SearchParams) :
    fieldAt (Kind.search k).payload 0 11 = 0 ∧ fieldAt (Kind.search k).payload 11 1 = k.varied.toNat ∧
    fieldAt (Kind.search k).payload 12 2 = k.lower % 65536 ∧ fieldAt (Kind.search k).payload 14 2 = k.upper % 65536 ∧
    fieldAt (Kind.search k).payload 16 2 = k.resolution % 65536 ∧
    fieldAt (Kind.search k).payload 18 1 = k.maximumShots % 256 ∧
    fieldAt (Kind.search k).payload 19 1 = k.policy.code % 256 ∧
    fieldAt (Kind.search k).payload 20 2 = k.boundary % 65536 ∧
    fieldAt (Kind.search k).payload 22 1 = k.tolerancePercent % 256 ∧
    fieldAt (Kind.search k).payload 23 2 = k.toleranceAbsolute % 65536 := by
  have zeros : Expectation.none.payload ++ bytesOf 1 0 ++ bytesOf 4 0 = bytesOf 11 0 := by decide
  have varied : k.varied.toNat % 256 = k.varied.toNat := Nat.mod_eq_of_lt k.varied.isLt
  simp only [Kind.payload, zeros, List.append_assoc]
  refine ⟨?_, ?_, ?_, ?_, ?_, ?_, ?_, ?_, ?_, ?_⟩ <;> simp [fieldAt_behind, varied]

/-- Handles of present records fit their bytes. -/
theorem Table.handle_le {α : Type} {t : Table α} {size h : Nat} (wf : t.wf size = true) (present : (t.at? h).isSome) :
    h ≤ size := by
  obtain ⟨a, ha⟩ := Option.isSome_iff_exists.1 present
  exact (((Table.wf_iff t size).1 wf).1 _ (Table.mem_of_at? t h a ha)).2

section
variable {states : Table StateRecord} {curves : Table Characteristic} {c : PointContent}

/-- The expectation of a content in range is read back (R171). -/
theorem expectationAt_payload {e : Expectation} {m : Nat} (curvesWf : curves.wf 16 = true) (inRange : e.InRange curves m)
    {r : RawPoint} (code : r.expectation = fieldAt e.payload 0 1) (time : r.expectedTime = fieldAt e.payload 1 4)
    (characteristic : r.characteristic = fieldAt e.payload 5 1) : ExpectationNamed r e := by
  obtain ⟨none, fixed, curve, noTrip⟩ := e.fieldAt_payload
  cases e with
  | none => exact code.trans (none rfl).1
  | fixed t =>
    obtain ⟨a, b, -⟩ := fixed t rfl
    obtain ⟨-, most, -⟩ := inRange
    exact ⟨code.trans a, time.trans (b.trans (Nat.mod_eq_of_lt (by omega)))⟩
  | curve h =>
    obtain ⟨a, -, b⟩ := curve h rfl
    have := Table.handle_le curvesWf inRange.1
    exact ⟨code.trans a, characteristic.trans (b.trans (Nat.mod_eq_of_lt (by omega)))⟩
  | noTrip => exact code.trans (noTrip rfl).1

theorem VariedRange.top_le {mask top : Nat} (h : VariedRange mask top) : top ≤ 32000 := by
  rcases h with h | h <;> omega

/-- The start fields are read back (R171). -/
theorem startAt_payload (range : c.start.InRange) : StartNamed (pointAt c.payload 0 c.states.length) c.start := by
  obtain ⟨mode, -, atTime⟩ := c.start.fieldAt_payload
  have start : ∀ k width, k + width ≤ 9 → fieldAt c.payload (6 + k) width = fieldAt c.start.payload k width :=
    fun k width inside => c.fieldAt_start inside
  have code := (start 0 1 (by decide)).trans mode
  cases hs : c.start with
  | immediate =>
    rw [hs] at code
    exact code
  | atTime day second offset =>
    obtain ⟨d, x, o⟩ := atTime day second offset hs
    rw [hs] at code range
    obtain ⟨dayRange, secondRange, offsetRange⟩ := range
    exact ⟨code, (start 1 2 (by decide)).trans (d.trans (Nat.mod_eq_of_lt (by omega))),
      (start 3 3 (by decide)).trans (x.trans (Nat.mod_eq_of_lt (by omega))),
      (start 6 3 (by decide)).trans (o.trans (Nat.mod_eq_of_lt (by omega)))⟩

/-- The search fields are read back (R171). -/
theorem searchAt_payload {k : SearchParams} (search : c.kind = .search k) (range : ∃ top, k.InRange top) :
    SearchNamed (pointAt c.payload 0 c.states.length) k := by
  have field : ∀ j width, j + width ≤ 25 →
      fieldAt c.payload (18 + j) width = fieldAt (Kind.search k).payload j width :=
    fun j width inside => search ▸ c.fieldAt_kind inside
  obtain ⟨-, varied, lower, upper, resolution, shots, policy, boundary, share, floor⟩ := fieldAt_search k
  obtain ⟨top, inRange, ⟨less, within⟩, ⟨-, coarse⟩, ⟨-, many⟩, found, percentRange, most⟩ := range
  have := inRange.top_le
  have code : k.policy.code < 256 := by cases k.policy <;> decide
  rw [Nat.mod_eq_of_lt (by omega)] at lower upper resolution shots policy boundary share floor
  exact ⟨(field 11 1 (by decide)).trans varied, (field 12 2 (by decide)).trans lower,
    (field 14 2 (by decide)).trans upper, (field 16 2 (by decide)).trans resolution,
    (field 18 1 (by decide)).trans shots, (field 19 1 (by decide)).trans policy,
    (field 20 2 (by decide)).trans boundary, (field 22 1 (by decide)).trans share,
    (field 23 2 (by decide)).trans floor⟩

/-- The kind and its own fields are read back (R171). -/
theorem kindAt_payload (curvesWf : curves.wf 16 = true) (range : c.kind.InRange curves c.monitored.toNat c.start.code) :
    KindNamed (pointAt c.payload 0 c.states.length) c.kind := by
  obtain ⟨-, kind, -⟩ := c.fieldAt_common
  cases hk : c.kind with
  | shot e percent absolute =>
    have field : ∀ j width, j + width ≤ 25 →
        fieldAt c.payload (18 + j) width = fieldAt (Kind.shot e percent absolute).payload j width :=
      fun j width inside => hk ▸ c.fieldAt_kind inside
    rw [hk] at kind range
    obtain ⟨expectation, share, floor, -⟩ := fieldAt_shot e percent absolute
    obtain ⟨expected, percentRange, absoluteRange⟩ := range
    rw [Nat.mod_eq_of_lt (by omega)] at share floor
    exact ⟨kind, expectationAt_payload curvesWf expected ((field 0 1 (by decide)).trans (expectation 0 1 (by decide)))
      ((field 1 4 (by decide)).trans (expectation 1 4 (by decide)))
      ((field 5 1 (by decide)).trans (expectation 5 1 (by decide))),
      (field 6 1 (by decide)).trans share, (field 7 4 (by decide)).trans floor⟩
  | search k =>
    rw [hk] at kind range
    exact ⟨kind, searchAt_payload hk range.1⟩

theorem pointAt_payload (statesWf : states.wf 192 = true) (curvesWf : curves.wf 16 = true)
    (inRange : c.InRange states curves) : PointNamed (pointAt c.payload 0 c.states.length) c := by
  obtain ⟨tag, -, position, monitored, combine, -⟩ := c.fieldAt_common
  obtain ⟨⟨-, short⟩, ⟨-, few⟩, present, ⟨-, last⟩, rangeStart, rangeKind⟩ := inRange
  have tag := tag.trans (Nat.mod_eq_of_lt short)
  have position := position.trans (Nat.mod_eq_of_lt (by omega))
  refine ⟨tag.symm, (map_range_eq fun j h listed => ?_).symm, position.symm, ?_, ?_, startAt_payload rangeStart,
    kindAt_payload curvesWf rangeKind⟩
  · have := Table.handle_le statesWf (present h (List.mem_of_getElem? listed))
    rw [Nat.zero_add, c.fieldAt_state listed]
    exact Nat.mod_eq_of_lt (by omega)
  · have := c.monitored.isLt
    exact (monitored.trans (Nat.mod_eq_of_lt (by omega))).symm
  · refine combine.trans (Nat.mod_eq_of_lt ?_)
    cases c.combine <;> decide

end

/-! ## Reading requests -/

section
variable (t : Tick) {code : Nat} (p : List Byte)

theorem readPlanCommand_unknown (h : code < 0x10 ∨ 0x20 < code) : readPlanCommand code p = .unknownCommand := by
  unfold readPlanCommand
  split
  case h_18 => rfl
  all_goals omega

theorem readRunCommand_unknown (h : code < 0x30 ∨ 0x38 < code) : readRunCommand t code p = .unknownCommand := by
  unfold readRunCommand
  split
  case h_10 => rfl
  all_goals omega

theorem readUnitCommand_unknown (h : code < 0x40 ∨ 0x46 < code ∧ code < 0x50 ∨ 0x51 < code ∧ code < 0x60 ∨ 0x61 < code) :
    readUnitCommand code p = .unknownCommand := by
  unfold readUnitCommand
  split
  case h_12 => rfl
  all_goals omega

theorem readRequest_unknown (h : code < 0x10 ∨ 0x20 < code ∧ code < 0x30 ∨ 0x38 < code ∧ code < 0x40 ∨
    0x46 < code ∧ code < 0x50 ∨ 0x51 < code ∧ code < 0x60 ∨ 0x61 < code) : readRequest t code p = .unknownCommand := by
  unfold readRequest
  split
  · exact readPlanCommand_unknown p (by omega)
  · split
    · exact readRunCommand_unknown t p (by omega)
    · exact readUnitCommand_unknown p (by omega)

end

/-- Settles O8: each command's row reads its fields, and contents in range fit the fields they are sent in. -/
theorem payloadsAreReadAsTheyAreSent : Obligations.PayloadsAreReadAsTheyAreSent := by
  refine ⟨⟨valueOf_cons, rfl⟩, ?_, fun raw c h => ⟨c.payload_length, checkState_stateAt h⟩,
    fun raw c h => ⟨c.payload_length, checkCurve_curveAt h⟩,
    fun states curves raw c statesWf curvesWf h => ⟨c.payload_length, ?_⟩⟩
  · intro t p field reads set state curve point count
    refine ⟨⟨rfl, rfl, rfl, rfl, rfl, rfl, rfl, rfl, rfl, rfl, rfl, rfl, rfl, rfl, rfl, rfl⟩, ?_, fun some range => ?_,
      fun first last => ?_, ⟨rfl, rfl, rfl, rfl, rfl, rfl, rfl, rfl, rfl⟩,
      ⟨rfl, rfl, rfl, rfl, rfl, rfl, rfl, rfl, rfl, rfl, rfl⟩, fun code => readRequest_unknown t p⟩
    · rintro rfl
      rfl
    · show readStateLoad p = _
      have length : p.length ≠ 0 := by simpa using some
      simp only [readStateLoad, if_neg length]
      exact if_pos range
    · show readStateLoad p = _
      have range : ¬ (fieldAt p 0 1 = 0 ∨ 3 < fieldAt p 0 1) := (by omega : ¬ (count = 0 ∨ 3 < count))
      have length : p.length ≠ 0 := by
        intro none
        rw [List.length_eq_zero_iff.1 none] at range
        exact range (.inl rfl)
      simp only [readStateLoad, if_neg length, if_neg range]
      rfl
  · obtain ⟨-, inRange⟩ := checkPoint_eq_some.1 h
    exact checkPoint_eq_some.2 ⟨pointAt_payload statesWf curvesWf inRange, inRange⟩

end Sys2Proof.Machine

/-! The lookup requests: the layouts of the records they answer with. -/

namespace Sys2Proof.Machine

/-! ## The test point -/

theorem contextPayload_length (c : Option SearchContext) : (contextPayload c).length = 7 := by
  cases c <;> simp [contextPayload, byteOf]

theorem TestPoint.unread_iff (p : TestPoint) : p.unread = true ↔ (p.result.map fun r => r.flags.unread) = some true := by
  unfold TestPoint.unread
  cases p.result <;> simp

section
variable (p : TestPoint)

theorem TestPoint.payload_eq : p.payload = bytesOf 1 p.editLevel ++ (p.content.payload ++ (bytesOf 1 p.status.code ++
    (contextPayload p.context ++ bytesOf 1 (bitsOf [(p.result.isSome, 1), (p.unread, 2)])))) := by
  rw [TestPoint.payload]
  simp only [List.append_assoc]

theorem TestPoint.fieldAt_content {k width : Nat} (inside : k + width ≤ 44 + p.content.states.length) :
    fieldAt p.payload (1 + k) width = fieldAt p.content.payload k width := by
  rw [TestPoint.payload_eq, fieldAt_behind _ _ (by omega),
    fieldAt_append_left _ _ (by rw [PointContent.payload_length]; omega), Nat.add_sub_cancel_left]

theorem TestPoint.fieldAt_tail (k width : Nat) : fieldAt p.payload (45 + p.content.states.length + k) width =
    fieldAt (bytesOf 1 p.status.code ++
      (contextPayload p.context ++ bytesOf 1 (bitsOf [(p.result.isSome, 1), (p.unread, 2)]))) k width := by
  rw [TestPoint.payload_eq, fieldAt_behind _ _ (by omega),
    fieldAt_append_right _ _ (by rw [PointContent.payload_length]; omega), PointContent.payload_length]
  refine congrArg (fieldAt _ · width) ?_
  omega

theorem TestPoint.fieldAt_context {k width : Nat} (inside : k + width ≤ 7) :
    fieldAt p.payload (46 + p.content.states.length + k) width = fieldAt (contextPayload p.context) k width := by
  rw [show 46 + p.content.states.length + k = 45 + p.content.states.length + (1 + k) by omega, p.fieldAt_tail,
    fieldAt_behind _ _ (by omega), fieldAt_append_left _ _ (by rw [contextPayload_length]; omega),
    Nat.add_sub_cancel_left]

/-- A search context in its fields, or zeros (R21, R171). -/
theorem fieldAt_contextPayload {c : SearchContext} (lower : c.lower < 65536) (upper : c.upper < 65536)
    (shots : c.shotsUsed < 256) :
    fieldAt (contextPayload (some c)) 0 1 = 1 ∧ fieldAt (contextPayload (some c)) 1 1 = c.phase.code ∧
    fieldAt (contextPayload (some c)) 2 2 = c.lower ∧ fieldAt (contextPayload (some c)) 4 2 = c.upper ∧
    fieldAt (contextPayload (some c)) 6 1 = c.shotsUsed := by
  have phase : c.phase.code % 256 = c.phase.code := by cases c.phase <;> rfl
  refine ⟨?_, ?_, ?_, ?_, ?_⟩ <;>
    simp [contextPayload, byteOf, fieldAt_behind, phase, Nat.mod_eq_of_lt lower, Nat.mod_eq_of_lt upper,
      Nat.mod_eq_of_lt shots]

variable {p} {states : Table StateRecord} {curves : Table Characteristic}

/-- The start fields as they are sent, 0 where they do not apply (R171; log entry 22). -/
def StartMode.fields : StartMode → Nat × Nat × Nat × Nat
  | .immediate => (0, 0, 0, 0)
  | .atTime day second offset => (1, day, second, offset)

/-- The expectation fields as they are sent, 0 where they do not apply (R171). -/
def Expectation.fields : Expectation → Nat × Nat × Nat
  | .none => (0, 0, 0)
  | .fixed time => (1, time, 0)
  | .curve h => (2, 0, h)
  | .noTrip => (3, 0, 0)

/-- The start fields of a test point in range (R171). -/
theorem fieldAt_start_inRange {c : PointContent} (range : c.start.InRange) :
    (fieldAt c.payload 6 1, fieldAt c.payload 7 2, fieldAt c.payload 9 3, fieldAt c.payload 12 3) =
      c.start.fields := by
  have start : ∀ k width, k + width ≤ 9 → fieldAt c.payload (6 + k) width = fieldAt c.start.payload k width :=
    fun k width inside => c.fieldAt_start inside
  obtain ⟨mode, immediate, atTime⟩ := c.start.fieldAt_payload
  rw [start 0 1 (by decide), start 1 2 (by decide), start 3 3 (by decide), start 6 3 (by decide), mode]
  cases hs : c.start with
  | immediate =>
    rw [hs] at immediate
    obtain ⟨a, b, d⟩ := immediate rfl
    rw [a, b, d]
    rfl
  | atTime day second offset =>
    rw [hs] at atTime range
    obtain ⟨a, b, d⟩ := atTime day second offset rfl
    obtain ⟨dayRange, secondRange, offsetRange⟩ := range
    rw [a, b, d, Nat.mod_eq_of_lt (by omega), Nat.mod_eq_of_lt (by omega), Nat.mod_eq_of_lt (by omega)]
    rfl

/-- The expectation fields of an expectation in range (R171). -/
theorem fieldAt_expectation_inRange {e : Expectation} {m : Nat} (curvesWf : curves.wf 16 = true)
    (range : e.InRange curves m) : (fieldAt e.payload 0 1, fieldAt e.payload 1 4, fieldAt e.payload 5 1) =
      e.fields := by
  obtain ⟨none, fixed, curve, noTrip⟩ := e.fieldAt_payload
  cases e with
  | none =>
    obtain ⟨a, b, d⟩ := none rfl
    rw [a, b, d]
    rfl
  | fixed time =>
    obtain ⟨a, b, d⟩ := fixed time rfl
    obtain ⟨-, most, -⟩ := range
    rw [a, b, d, Nat.mod_eq_of_lt (by omega)]
    rfl
  | curve h =>
    obtain ⟨a, b, d⟩ := curve h rfl
    have := Table.handle_le curvesWf range.1
    rw [a, b, d, Nat.mod_eq_of_lt (by omega)]
    rfl
  | noTrip =>
    obtain ⟨a, b, d⟩ := noTrip rfl
    rw [a, b, d]
    rfl

/-- POINT_GET sends a test point in range field by field (R21, R171). -/
theorem TestPoint.laidOut (level : p.editLevel < 256) (statesWf : states.wf 192 = true) (curvesWf : curves.wf 16 = true)
    (inRange : p.content.InRange states curves)
    (context : ∀ c, p.context = some c → c.lower < 65536 ∧ c.upper < 65536 ∧ c.shotsUsed < 256) :
    p.LaidOut p.payload := by
  obtain ⟨tag, kind, position, monitored, combine, count⟩ := p.content.fieldAt_common
  have content : ∀ k width, k + width ≤ 44 →
      fieldAt p.payload (1 + k) width = fieldAt p.content.payload k width :=
    fun k width inside => p.fieldAt_content (by omega)
  have field : ∀ k width, k + width ≤ 25 →
      fieldAt p.payload (19 + k) width = fieldAt p.content.kind.payload k width := by
    intro k width inside
    rw [← p.content.fieldAt_kind inside, ← content _ _ (by omega)]
    exact congrArg (fieldAt _ · width) (by omega)
  obtain ⟨⟨-, short⟩, ⟨-, few⟩, present, ⟨-, last⟩, rangeStart, rangeKind⟩ := inRange
  have tail := p.fieldAt_tail
  have fields := fun {k width : Nat} => p.fieldAt_context (k := k) (width := width)
  refine ⟨?_, ?_, (content 0 4 (by decide)).trans (tag.trans (Nat.mod_eq_of_lt short)),
    (content 5 1 (by decide)).trans (position.trans (Nat.mod_eq_of_lt (by omega))), ?_, ⟨?_, ?_⟩, fun e percent absolute shot => ?_,
    fun k search => ?_, ⟨(content 43 1 (by decide)).trans (count.trans (Nat.mod_eq_of_lt (by omega))),
      fun j h listed => ?_⟩, ?_, ?_, ?_⟩
  · rw [TestPoint.payload_eq]
    simp only [List.length_append, bytesOf_length, PointContent.payload_length, contextPayload_length]
    omega
  · rw [TestPoint.payload_eq, fieldAt_front]
    exact Nat.mod_eq_of_lt level
  · have start := fieldAt_start_inRange rangeStart
    rw [← content 6 1 (by decide), ← content 7 2 (by decide), ← content 9 3 (by decide),
      ← content 12 3 (by decide)] at start
    refine start.trans ?_
    cases p.content.start <;> rfl
  · have := p.content.monitored.isLt
    exact (content 15 2 (by decide)).trans (monitored.trans (Nat.mod_eq_of_lt (by omega)))
  · refine (content 17 1 (by decide)).trans (combine.trans ?_)
    cases p.content.combine <;> rfl
  · have zero := (content 4 1 (by decide)).trans kind
    rw [shot] at zero field rangeKind
    obtain ⟨expectation, share, floor, rest⟩ := fieldAt_shot e percent absolute
    obtain ⟨expected, percentRange, absoluteRange⟩ := rangeKind
    rw [Nat.mod_eq_of_lt (by omega)] at share floor
    refine ⟨zero, (field 6 1 (by decide)).trans share, (field 7 4 (by decide)).trans floor,
      (field 11 14 (by decide)).trans rest, ?_⟩
    have fields := fieldAt_expectation_inRange curvesWf expected
    rw [← expectation 0 1 (by decide), ← expectation 1 4 (by decide), ← expectation 5 1 (by decide),
      ← field 0 1 (by decide), ← field 1 4 (by decide), ← field 5 1 (by decide)] at fields
    refine fields.trans ?_
    cases e <;> rfl
  · have one := (content 4 1 (by decide)).trans kind
    rw [search] at one field rangeKind
    obtain ⟨zeros, varied, lower, upper, resolution, shots, policy, boundary, share, floor⟩ := fieldAt_search k
    obtain ⟨⟨top, inRange, ⟨less, within⟩, ⟨-, coarse⟩, ⟨-, many⟩, found, percentRange, most⟩, -, -⟩ := rangeKind
    have := inRange.top_le
    have code : k.policy.code % 256 = bit (k.policy = .abort) := by cases k.policy <;> rfl
    rw [code] at policy
    rw [Nat.mod_eq_of_lt (by omega)] at lower upper resolution shots boundary share floor
    exact ⟨one, (field 0 11 (by decide)).trans zeros, (field 11 1 (by decide)).trans varied,
      (field 12 2 (by decide)).trans lower, (field 14 2 (by decide)).trans upper,
      (field 16 2 (by decide)).trans resolution, (field 18 1 (by decide)).trans shots,
      (field 19 1 (by decide)).trans policy, (field 20 2 (by decide)).trans boundary,
      (field 22 1 (by decide)).trans share, (field 23 2 (by decide)).trans floor⟩
  · obtain ⟨index, -⟩ := List.getElem?_eq_some_iff.1 listed
    have handle := Table.handle_le statesWf (present h (List.mem_of_getElem? listed))
    rw [show 45 + j = 1 + (44 + j) by omega, p.fieldAt_content (by omega), p.content.fieldAt_state listed]
    exact Nat.mod_eq_of_lt (by omega)
  · have status := tail 0 1
    rw [Nat.add_zero, fieldAt_front] at status
    rw [status]
    cases p.status <;> rfl
  · show match p.context with
      | none => fieldAt p.payload (46 + p.content.states.length) 7 = 0
      | some k => _
    cases hc : p.context with
    | none =>
      have zeros : fieldAt (contextPayload none) 0 7 = 0 := by decide
      rw [hc] at fields
      exact (fields (k := 0) (by decide)).trans zeros
    | some c =>
      obtain ⟨lower, upper, shots⟩ := context c hc
      obtain ⟨one, phase, low, high, used⟩ := fieldAt_contextPayload lower upper shots
      rw [hc] at fields
      refine ⟨(fields (k := 0) (by decide)).trans one, ?_, (fields (by decide)).trans low,
        (fields (by decide)).trans high, (fields (by decide)).trans used⟩
      rw [fields (k := 1) (by decide), phase]
      cases c.phase <;> rfl
  · have result : fieldAt p.payload (53 + p.content.states.length) 1 =
        fieldAt (bytesOf 1 (bitsOf [(p.result.isSome, 1), (p.unread, 2)])) 0 1 := by
      rw [show 53 + p.content.states.length = 45 + p.content.states.length + 8 by omega, tail, fieldAt_behind _ _ (by decide),
        fieldAt_append_right _ _ (by rw [contextPayload_length]), contextPayload_length]
    have unread : decide ((p.result.map fun r => r.flags.unread) = some true) = p.unread := by
      rw [Bool.eq_iff_iff, decide_eq_true_eq, p.unread_iff]
    have := bit_le p.result.isSome
    have := bit_le p.unread
    rw [result, fieldAt_single, unread]
    simp only [bitsOf_cons, bitsOf_nil]
    omega

end

/-! ## Channels -/

theorem pendingPayload_eq {α : Type} (width : Nat) (payload : α → List Byte) (k : Option α) :
    pendingPayload width payload k = bytesOf 1 (bit k.isSome) ++ k.elim (bytesOf width 0) payload := by
  cases k <;> rfl

theorem rangeAllowed_lt {c : Chan} {range : Nat} (h : rangeAllowed c range = true) : range < 65536 := by
  unfold rangeAllowed at h
  split at h <;> simp only [Bool.or_eq_true, decide_eq_true_eq] at h <;> omega

theorem ChannelConfig.payload_length (k : ChannelConfig) : k.payload.length = 8 := by simp [ChannelConfig.payload]

/-- The five values of a configuration, or zeros (R171). -/
theorem channelValuesAt_elim {c : Chan} {k : Option ChannelConfig} (valid : ∀ p, k = some p → p.valid c)
    (rest : List Byte) : channelValuesAt (k.elim (bytesOf 8 0) ChannelConfig.payload ++ rest) 0 k := by
  cases k with
  | none =>
    have zeros : bytesOf 8 0 = bytesOf 2 0 ++ (bytesOf 2 0 ++ (bytesOf 2 0 ++ (bytesOf 1 0 ++ bytesOf 1 0))) := by decide
    simp [channelValuesAt, zeros, fieldAt_behind]
  | some p =>
    obtain ⟨range, least, gap, most, few, many, low, high⟩ := valid p rfl
    have := rangeAllowed_lt range
    simp only [channelValuesAt, Option.elim_some, ChannelConfig.payload, List.append_assoc, fieldAt_behind, fieldAt_front,
      Nat.zero_add, Nat.reduceLeDiff, Nat.reduceSub, Nat.reducePow, Nat.le_refl, Nat.sub_self, Prod.mk.injEq]
    omega

theorem channelValuesAt_behind {x y : List Byte} {n : Nat} (length : x.length = n) (k : Option ChannelConfig)
    (h : channelValuesAt y 0 k) : channelValuesAt (x ++ y) n k := by
  have shift : ∀ j width, fieldAt (x ++ y) (n + j) width = fieldAt y j width := fun j width => by
    rw [fieldAt_append_right _ _ (by omega), length, Nat.add_sub_cancel_left]
  have front : ∀ width, fieldAt (x ++ y) n width = fieldAt y 0 width := shift 0
  unfold channelValuesAt at h ⊢
  rw [front, shift 2, shift 4, shift 6, shift 7]
  exact h

theorem Channel.payload_eq (k : Channel) : k.payload = k.config.payload ++ (bytesOf 1 (bit k.pending.isSome) ++
    (k.pending.elim (bytesOf 8 0) ChannelConfig.payload ++ (bytesOf 1 (bit k.mute) ++ (bytesOf 1 (bit k.faultLine) ++
      (bytesOf 1 (bit k.lost) ++ (bytesOf 1 k.overloads ++ (bytesOf 2 k.losses ++ bytesOf 1 (bit (!k.fit))))))))) := by
  rw [Channel.payload, pendingPayload_eq]
  simp only [List.append_assoc, byteOf_eq]

/-- CHAN_GET sends a channel record field by field (R84, R171). -/
theorem Channel.laidOut {k : Channel} {c : Chan} {playing : Bool} (inv : k.inv c playing) : k.LaidOut k.payload := by
  have first := k.config.payload_length
  have second : (k.pending.elim (bytesOf 8 0) ChannelConfig.payload).length = 8 := by
    cases k.pending with
    | none => exact bytesOf_length 8 0
    | some p => exact p.payload_length
  have bits : ∀ b : Bool, bit b % 256 = bit b := fun b => Nat.mod_eq_of_lt ((bit_le b).trans_lt (by decide))
  have := inv.overloads
  have := inv.losses
  rw [Channel.payload_eq]
  refine ⟨?_, ?_, ⟨?_, ?_⟩, ⟨?_, ?_, ?_⟩, ⟨?_, ?_⟩, ?_⟩
  case refine_2 =>
    exact channelValuesAt_elim (k := some k.config) (fun p e => by cases e; exact inv.config) _
  case refine_4 =>
    exact channelValuesAt_behind (x := k.config.payload ++ bytesOf 1 (bit k.pending.isSome)) (n := 9)
      (by rw [List.length_append, first, bytesOf_length]) k.pending
      (channelValuesAt_elim (fun p e => (inv.pending p e).2) _) |> (List.append_assoc _ _ _ ▸ ·)
  case refine_1 => simp only [List.length_append, first, second, bytesOf_length]
  all_goals
    simp only [fieldAt_append_right, fieldAt_front, fieldAt_single, first, second, bytesOf_length, Nat.reduceLeDiff,
      Nat.reduceSub, Nat.reducePow, Nat.le_refl, Nat.sub_self, bits]
  · omega
  · omega

/-! ## Inputs -/

theorem InputConfig.payload_length (k : InputConfig) : k.payload.length = 7 := by
  cases hm : k.mode <;> simp [InputConfig.payload, InputMode.payload, byteOf_eq, hm]

/-- The values of an input configuration, or zeros (R112, R171). -/
theorem inputValuesAt_elim {k : Option InputConfig} (valid : ∀ p, k = some p → p.valid)
    (rest : List Byte) : inputValuesAt (k.elim (bytesOf 7 0) InputConfig.payload ++ rest) 0 k := by
  cases k with
  | none =>
    have zeros : bytesOf 7 0 = bytesOf 1 0 ++ (bytesOf 2 0 ++ (bytesOf 2 0 ++ (bytesOf 1 0 ++ bytesOf 1 0))) := by decide
    simp [inputValuesAt, zeros, fieldAt_behind]
  | some p =>
    obtain ⟨few, many, mode⟩ := valid p rfl
    have := bit_le p.inverted
    cases hm : p.mode with
    | dry =>
      simp only [inputValuesAt, Option.elim_some, InputConfig.payload, InputMode.payload, hm, byteOf_eq,
        List.append_assoc, fieldAt_behind, fieldAt_front, Nat.zero_add, Nat.reduceLeDiff, Nat.reduceSub, Nat.reducePow,
        Nat.le_refl, Nat.sub_self, Prod.mk.injEq, true_and]
      omega
    | wet on off =>
      rw [hm] at mode
      simp only [inputValuesAt, Option.elim_some, InputConfig.payload, InputMode.payload, hm, byteOf_eq,
        List.append_assoc, fieldAt_behind, fieldAt_front, Nat.zero_add, Nat.reduceLeDiff, Nat.reduceSub, Nat.reducePow,
        Nat.le_refl, Nat.sub_self, Prod.mk.injEq, true_and]
      omega

theorem inputValuesAt_behind {x y : List Byte} {n : Nat} (length : x.length = n) (k : Option InputConfig)
    (h : inputValuesAt y 0 k) : inputValuesAt (x ++ y) n k := by
  have shift : ∀ j width, fieldAt (x ++ y) (n + j) width = fieldAt y j width := fun j width => by
    rw [fieldAt_append_right _ _ (by omega), length, Nat.add_sub_cancel_left]
  have front : ∀ width, fieldAt (x ++ y) n width = fieldAt y 0 width := shift 0
  unfold inputValuesAt at h ⊢
  rw [front, shift 1, shift 3, shift 5, shift 6]
  exact h

/-- A tick, or 0, as it is sent (R171). -/
theorem tickPayload_eq (t : Option Tick) : tickPayload t = bytesOf 6 ((t.map BitVec.toNat).getD 0) := rfl

theorem tick_getD_lt (t : Option Tick) : (t.map BitVec.toNat).getD 0 < 2 ^ 48 := by
  cases t with
  | none => decide
  | some t => exact t.isLt

theorem Input.payload_eq (i : Input) (idle : BitVec 4) : i.payload idle = i.config.payload ++
    (bytesOf 1 (bit i.pending.isSome) ++ (i.pending.elim (bytesOf 7 0) InputConfig.payload ++
      (bytesOf 1 (bit i.sensed) ++ (bytesOf 1 i.qualification.code ++ (bytesOf 1 i.qualification.run ++
        (bytesOf 6 ((i.entry.operate.map BitVec.toNat).getD 0) ++
          (bytesOf 6 ((i.entry.release.map BitVec.toNat).getD 0) ++
            (bytesOf 1 (bitsOf [(i.entry.operate.isSome, 1), (i.entry.release.isSome, 2), (i.entry.standing, 4)]) ++
              (bytesOf 1 i.entry.bounces ++ bytesOf 1 idle.toNat))))))))) := by
  rw [Input.payload, pendingPayload_eq]
  simp only [List.append_assoc, byteOf_eq, tickPayload_eq]

theorem Input.values_length (i : Input) : (i.pending.elim (bytesOf 7 0) InputConfig.payload).length = 7 := by
  cases i.pending with
  | none => exact bytesOf_length 7 0
  | some p => exact p.payload_length

/-- The last byte of INPUT_GET: the idle levels (R112, R113). -/
theorem Input.fieldAt_idle (i : Input) (idle : BitVec 4) :
    (i.payload idle).length = 33 ∧ fieldAt (i.payload idle) 32 1 = idle.toNat := by
  have := idle.isLt
  rw [Input.payload_eq]
  constructor
  · simp only [List.length_append, i.config.payload_length, i.values_length, bytesOf_length]
  · simp only [fieldAt_append_right, fieldAt_single, i.config.payload_length, i.values_length, bytesOf_length,
      Nat.reduceLeDiff, Nat.reduceSub, Nat.reducePow, Nat.le_refl, Nat.sub_self]
    omega

/-- INPUT_GET sends an input record and the idle levels field by field (R112, R171). -/
theorem Input.laidOut {i : Input} {playing : Bool} (inv : i.inv playing) (run : i.qualification.run < 256)
    (idle : BitVec 4) : i.LaidOut idle (i.payload idle) := by
  have first := i.config.payload_length
  have second := i.values_length
  obtain ⟨length, levels⟩ := i.fieldAt_idle idle
  have bits : ∀ b : Bool, bit b % 256 = bit b := fun b => Nat.mod_eq_of_lt ((bit_le b).trans_lt (by decide))
  have := inv.bounces
  have := tick_getD_lt i.entry.operate
  have := tick_getD_lt i.entry.release
  have := bit_le i.entry.operate.isSome
  have := bit_le i.entry.release.isSome
  have := bit_le i.entry.standing
  refine ⟨length, ?_, ⟨?_, ?_⟩, ?_, ?_, ?_, ?_, ?_, ?_, levels⟩
  all_goals rw [Input.payload_eq]
  case refine_1 =>
    exact inputValuesAt_elim (k := some i.config) (fun p e => by cases e; exact inv.config) _
  case refine_3 =>
    exact inputValuesAt_behind (x := i.config.payload ++ bytesOf 1 (bit i.pending.isSome)) (n := 8)
      (by rw [List.length_append, first, bytesOf_length]) i.pending
      (inputValuesAt_elim (fun p e => (inv.pending p e).2) _) |> (List.append_assoc _ _ _ ▸ ·)
  all_goals
    simp only [fieldAt_append_right, fieldAt_front, first, second, bytesOf_length, Nat.reduceLeDiff,
      Nat.reduceSub, Nat.reducePow, Nat.le_refl, Nat.sub_self, bits, bitsOf_cons, bitsOf_nil]
  · cases hq : i.qualification with
    | inactive => rfl
    | active => rfl
    | pendingOn n c =>
      rw [hq] at run
      exact congrArg (Prod.mk 1) (Nat.mod_eq_of_lt run)
    | pendingOff n c =>
      rw [hq] at run
      exact congrArg (Prod.mk 3) (Nat.mod_eq_of_lt run)
  all_goals omega

/-! ## Lists -/

theorem flatMap_singleton_eq {α : Type} (l : List α) (f : α → Byte) : (l.flatMap fun a => [f a]) = l.map f := by
  induction l with
  | nil => rfl
  | cons a l ih => rw [List.flatMap_cons, ih]; rfl

/-- POINT_LIST's two bytes of a test point (R23). -/
theorem listPayload_eq (e : Nat × TestPoint) : listPayload e = [BitVec.ofNat 8 e.1,
    BitVec.ofNat 8 (e.2.status.code + (if e.2.result.isSome then 4 else 0) +
      (if (e.2.result.map fun r => r.flags.unread) = some true then 8 else 0))] := by
  have flag : (if (e.2.result.map fun r => r.flags.unread) = some true then 8 else 0) = if e.2.unread then 8 else 0 :=
    if_congr e.2.unread_iff.symm rfl rfl
  rw [flag]
  simp [listPayload, bytesOf_one, bitsOf, Nat.add_assoc]

/-- QUEUE_GET's payload, byte by byte (R46). -/
theorem RunController.payload_eq (r : RunController) : r.payload = BitVec.ofNat 8 r.queue.length ::
    (r.queue.map fun e => BitVec.ofNat 8 (e.handle + if e.marked then 128 else 0)) ++
    [BitVec.ofNat 8 (r.active.getD 0), BitVec.ofNat 8 r.state.code, BitVec.ofNat 8 r.hold.toNat] ++
    bytesOf 2 r.setup.restInterval ++ bytesOf 2 r.setup.resetWait ++ [BitVec.ofNat 8 r.setup.policy.code] := by
  simp [RunController.payload, RunSetup.payload, bytesOf_one, bitsOf, byteOf, orZero, flatMap_singleton_eq]

/-- Settles O11: each lookup answers with its record's payload, which the layouts read back. -/
theorem lookupsAnswerAndChangeNothing : Obligations.LookupsAnswerAndChangeNothing := by
  intro s answer
  refine ⟨fun h p raw first last present level statesWf curvesWf checked context => ?_, fun h r first last present => ?_,
    fun h k first last present => ?_, ?_, ?_, fun c inv => ⟨(s.channels.get c).payload, ?_, Channel.laidOut inv⟩,
    fun n inv run => ⟨(s.inputs.get n).payload s.idleOutputs, ?_, Input.laidOut inv run s.idleOutputs⟩, ?_⟩
  · obtain ⟨-, inRange⟩ := checkPoint_eq_some.1 checked
    refine ⟨p.payload, ?_, TestPoint.laidOut level statesWf curvesWf inRange context⟩
    show execPointGet h s = _
    rw [execPointGet, State.onRecord_present s s.points Config.pointEntries h _ p first last present]
    rfl
  · show execStateGet h s = _
    rw [execStateGet, State.onRecord_present s s.states Config.stateEntries h _ r first last present]
    rfl
  · show execCurveGet h s = _
    rw [execCurveGet, State.onRecord_present s s.curves Config.curveEntries h _ k first last present]
    rfl
  · show execPointList s = _
    rw [execPointList, bytesOf_one, funext listPayload_eq]
    rfl
  · show execQueueGet s = _
    rw [execQueueGet, RunController.payload_eq]
    rfl
  · show execChanGet c.number s = _
    rw [execChanGet, State.onChannel, Chan.ofNumber_number]
    rfl
  · show execInputGet n.number s = _
    rw [execInputGet, State.onInput, Inp.ofNumber_number]
    rfl
  · show execDeviceInfo s = _
    have identity : bytesOf 2 Config.partCode ++ bytesOf 1 Config.siliconRevision = [0x62, 0x08, 0x01] := by decide
    rw [execDeviceInfo, identity]
    rfl

end Sys2Proof.Machine

/-! Requests of the Output Supervisor, the Binary Input Unit and the Timebase. -/

namespace Sys2Proof.Machine

theorem RunState.isPlaying_iff (r : RunState) : r.isPlaying = true ↔ ∃ play, r = .playing play := by
  cases r <;> simp [RunState.isPlaying]

theorem RunState.isPlaying_eq_false (r : RunState) : r.isPlaying = false ↔ ∀ play, r ≠ .playing play := by
  cases r <;> simp [RunState.isPlaying]

/-! ## CHAN_SET, CHAN_UNMUTE and CHAN_SERVICE -/

/-- One channel record replaced, the CHANNEL cause raised or not, and the request answered OK. -/
structure State.ChannelAnswered (s : State) (c : Chan) (r : Channel) (cause : Bool) (u : State) : Prop where
  frame : u = { s with
    channels := u.channels, port := ({ s.port with channel := s.port.channel || cause }).answered 0 [] }
  changed : u.channels.get c = r
  others : ∀ d, d ≠ c → u.channels.get d = s.channels.get d

theorem State.setChannel_answered (s : State) (c : Chan) (f : Channel → Channel) (cause : Bool) :
    s.ChannelAnswered c (f (s.channels.get c)) cause (((s.setChannel c f).raiseChannelIf cause).accept []) where
  frame := rfl
  changed := by simp [State.setChannel, PerChannel.get_update]
  others d other := by simp [State.setChannel, PerChannel.get_update, other.symm]

theorem State.setChannel_answered_quietly (s : State) (c : Chan) (f : Channel → Channel) :
    s.ChannelAnswered c (f (s.channels.get c)) false ((s.setChannel c f).accept []) := by
  have calm : (s.setChannel c f).raiseChannelIf false = s.setChannel c f := by
    unfold State.raiseChannelIf
    rw [Bool.or_false]
  rw [← calm]
  exact s.setChannel_answered c f false

/-- The five values of CHAN_SET as a configuration. -/
def configOf (raw : RawChannelConfig) : ChannelConfig :=
  ChannelConfig.mk raw.range raw.offThreshold raw.onThreshold raw.qualifying raw.overloadLimit

theorem checkChannel_of_valid {c : Chan} {raw : RawChannelConfig} (valid : (configOf raw).valid c) :
    checkChannel c raw = some (configOf raw) := by
  obtain ⟨range, off, gap, onMax, q, qMax, limit, limitMax⟩ := valid
  simp only [configOf] at range off gap onMax q qMax limit limitMax
  have offMax : raw.offThreshold ≤ 990 := by omega
  simp [checkChannel, configOf, range, off, offMax, gap, onMax, q, qMax, limit, limitMax]

theorem checkChannel_of_not_valid {c : Chan} {raw : RawChannelConfig} (bad : ¬ (configOf raw).valid c) :
    checkChannel c raw = none := by
  cases hk : checkChannel c raw with
  | none => rfl
  | some k =>
    have valid := ChannelConfig.valid_of_check hk
    unfold checkChannel at hk
    split at hk
    · cases hk
      exact absurd valid bad
    · cases hk

theorem exec_chanSet {s : State} {c : Chan} {raw : RawChannelConfig} (valid : (configOf raw).valid c) :
    exec (.chanSet c.number raw) s = .next (
      if s.run.state.isPlaying then (s.setChannel c fun r => { r with pending := some (configOf raw) }).accept []
      else ((s.setChannel c fun r => r.configure (configOf raw)).raiseChannelIf
        ((s.channels.get c).fit && !((s.channels.get c).configure (configOf raw)).fit)).accept []) := by
  simp only [exec, execChanSet, State.onChannel_number, checkChannel_of_valid valid]

theorem exec_chan_badHandle (s : State) {n : Nat} (out : n = 0 ∨ 8 < n) (raw : RawChannelConfig) :
    ∀ i ∈ [Instr.chanSet n raw, .chanGet n, .chanUnmute n, .chanService n], RefusedWith i s 0x20 := by
  have refused : ∀ act, s.onChannel n act = s.refuse .badHandle := fun act => by
    simp [State.onChannel, (Chan.ofNumber_eq_none n).2 out]
  simp only [List.forall_mem_cons, List.not_mem_nil, false_implies, implies_true, and_true]
  exact ⟨congrArg _ (refused _), congrArg _ (refused _), congrArg _ (refused _), congrArg _ (refused _)⟩

theorem chanSet_spec (s : State) (c : Chan) (raw : RawChannelConfig) (valid : (configOf raw).valid c) :
    ((∃ play, s.run.state = .playing play) → ∃ u, exec (.chanSet c.number raw) s = .next u ∧
      s.ChannelAnswered c { s.channels.get c with pending := some (configOf raw) } false u) ∧
    ((∀ play, s.run.state ≠ .playing play) → ∃ u, exec (.chanSet c.number raw) s = .next u ∧
      s.ChannelAnswered c ((s.channels.get c).configure (configOf raw))
        ((s.channels.get c).fit && decide (raw.overloadLimit ≤ (s.channels.get c).overloads)) u) := by
  rw [exec_chanSet valid, ← RunState.isPlaying_iff, ← RunState.isPlaying_eq_false]
  constructor
  · intro playing
    rw [if_pos playing]
    exact ⟨_, rfl, s.setChannel_answered_quietly c fun r => { r with pending := some (configOf raw) }⟩
  · intro still
    have unfit : ((s.channels.get c).fit && !((s.channels.get c).configure (configOf raw)).fit) =
        ((s.channels.get c).fit && decide (raw.overloadLimit ≤ (s.channels.get c).overloads)) := by
      rw [Bool.eq_iff_iff]
      simp +contextual [Channel.configure, configOf]
      exact fun _ => decide_eq_false_iff_not.trans Nat.not_lt
    rw [if_neg (by simp [still]), unfit]
    exact ⟨_, rfl, s.setChannel_answered c (fun r => r.configure (configOf raw)) _⟩

theorem chanUnmute_spec (s : State) (c : Chan) (deasserted : (s.channels.get c).faultLine = false) :
    ∃ u, exec (.chanUnmute c.number) s = .next u ∧
      s.ChannelAnswered c { s.channels.get c with mute := false } (s.channels.get c).mute u := by
  refine ⟨_, ?_, s.setChannel_answered c (fun r => { r with mute := false }) _⟩
  simp [exec, execChanUnmute, deasserted]

theorem chanService_spec (s : State) (c : Chan) (allowed : s.level ≤ 1) :
    ∃ u, exec (.chanService c.number) s = .next u ∧
      s.ChannelAnswered c (s.channels.get c).service (!(s.channels.get c).fit) u := by
  refine ⟨_, ?_, s.setChannel_answered c Channel.service _⟩
  have low : ¬ 1 < s.level := by omega
  simp [exec, execChanService, low]

/-- Settles O27: the channel number, then the values, then the run state decide what CHAN_SET does. -/
theorem channelRequestsConfigureUnmuteAndService : Obligations.ChannelRequestsConfigureUnmuteAndService := by
  refine ⟨fun s raw => ⟨fun n out => exec_chan_badHandle s out raw, fun c => ⟨fun bad => ?_, fun valid => ?_⟩⟩,
    fun s c => ⟨fun asserted => ?_, fun deasserted => ?_, fun above => ?_, fun allowed => ?_⟩⟩
  · refine refusedWith_of_refuse (code := .badValue) rfl ?_
    simp only [State.onChannel_number, checkChannel_of_not_valid (raw := raw) bad]
  · obtain ⟨held, atOnce⟩ := chanSet_spec s c raw valid
    refine ⟨fun playing => ?_, fun still => ?_⟩
    · obtain ⟨u, run, frame, changed, others⟩ := held playing
      exact ⟨u, run, frame, changed, others⟩
    · obtain ⟨u, run, frame, changed, others⟩ := atOnce still
      exact ⟨u, run, frame, changed, others⟩
  · refine refusedWith_of_refuse (code := .busy) rfl ?_
    simp [asserted]
  · obtain ⟨u, run, frame, changed, others⟩ := chanUnmute_spec s c deasserted
    exact ⟨u, run, frame, changed, others⟩
  · refine refusedWith_of_refuse (code := .denied) rfl ?_
    simp [above]
  · obtain ⟨u, run, frame, changed, others⟩ := chanService_spec s c allowed
    exact ⟨u, run, frame, changed, others⟩

/-! ## INPUT_SET -/

/-- One input record replaced and the request answered OK. -/
structure State.InputAnswered (s : State) (n : Inp) (r : Input) (u : State) : Prop where
  frame : u = { s with inputs := u.inputs, port := s.port.answered 0 [] }
  changed : u.inputs.get n = r
  others : ∀ m, m ≠ n → u.inputs.get m = s.inputs.get m

theorem State.setInput_answered (s : State) (n : Inp) (f : Input → Input) :
    s.InputAnswered n (f (s.inputs.get n)) ((s.setInput n f).accept []) where
  frame := rfl
  changed := by simp [State.setInput, PerInput.get_update]
  others m other := by simp [State.setInput, PerInput.get_update, other.symm]

/-- The values of INPUT_SET that its checks refuse (R110). -/
def badInput (raw : RawInputConfig) : Prop :=
  raw.samples = 0 ∨ 100 < raw.samples ∨ 1 < raw.polarity ∨ 1 < raw.mode ∨
    raw.mode = 1 ∧ (raw.onThreshold < 5 ∨ 300 < raw.onThreshold ∨ raw.onThreshold ≤ raw.offThreshold)

/-- The values of INPUT_SET as a configuration. -/
def inputConfigOf (raw : RawInputConfig) : InputConfig :=
  InputConfig.mk (if raw.mode = 0 then .dry else .wet raw.onThreshold raw.offThreshold) raw.samples
    (decide (raw.polarity = 1))

theorem inputModeOf_of_good {raw : RawInputConfig} (good : ¬ badInput raw) :
    inputModeOf raw = some (inputConfigOf raw).mode := by
  unfold badInput at good
  obtain mode | mode : raw.mode = 0 ∨ raw.mode = 1 := by omega
  · simp [inputModeOf, inputConfigOf, mode]
  · have on : 5 ≤ raw.onThreshold ∧ raw.onThreshold ≤ 300 ∧ raw.offThreshold < raw.onThreshold := by omega
    simp [inputModeOf, inputConfigOf, mode, on]

theorem checkInput_of_good {raw : RawInputConfig} (good : ¬ badInput raw) :
    checkInput raw = some (inputConfigOf raw) := by
  have mode := inputModeOf_of_good good
  unfold badInput at good
  have ranges : 1 ≤ raw.samples ∧ raw.samples ≤ 100 ∧ raw.polarity < 2 := by omega
  simp [checkInput, mode, ranges]
  simp [inputConfigOf]

theorem checkInput_of_bad {raw : RawInputConfig} (bad : badInput raw) : checkInput raw = none := by
  unfold badInput at bad
  unfold checkInput
  cases hm : inputModeOf raw with
  | none => rfl
  | some mode =>
    refine if_neg fun ranges => ?_
    simp only [Bool.and_eq_true, decide_eq_true_eq] at ranges
    unfold inputModeOf at hm
    split at hm
    · omega
    · split at hm
      · rename_i on
        simp only [Bool.and_eq_true, decide_eq_true_eq] at on
        omega
      · cases hm
    · cases hm

theorem exec_inputSet {s : State} {n : Inp} {raw : RawInputConfig} (good : ¬ badInput raw) :
    exec (.inputSet n.number raw) s = .next (
      if s.run.state.isPlaying then (s.setInput n fun i => { i with pending := some (inputConfigOf raw) }).accept []
      else (s.setInput n fun i => i.configure (inputConfigOf raw)).accept []) := by
  simp only [exec, execInputSet, State.onInput_number, checkInput_of_good good]

theorem Input.configure_eq (i : Input) (raw : RawInputConfig) : i.configure (inputConfigOf raw) =
    { i with
      config := inputConfigOf raw
      wetMemory := i.wetMemory && decide (raw.mode = 0 ∨ i.config.mode ≠ .dry) } := by
  unfold Input.configure inputConfigOf
  by_cases mode : raw.mode = 0 <;> cases i.config.mode <;> simp [mode, InputMode.isWet]

/-- Settles O28: the input number, then the values, then the run state decide what INPUT_SET does. -/
theorem inputSetConfiguresOrHolds : Obligations.InputSetConfiguresOrHolds := by
  refine fun s raw => ⟨fun n out => ?_, fun n => ⟨fun bad => ?_, fun good => ?_⟩⟩
  · have refused : ∀ act, s.onInput n act = s.refuse .badHandle := fun act => by
      simp [State.onInput, (Inp.ofNumber_eq_none n).2 out]
    simp only [List.forall_mem_cons, List.not_mem_nil, false_implies, implies_true, and_true]
    exact ⟨congrArg _ (refused _), congrArg _ (refused _)⟩
  · refine refusedWith_of_refuse (code := .badValue) rfl ?_
    simp only [State.onInput_number, checkInput_of_bad (raw := raw) bad]
  · rw [exec_inputSet (raw := raw) good, ← RunState.isPlaying_iff, ← RunState.isPlaying_eq_false]
    refine ⟨fun playing => ?_, fun still => ?_⟩
    · rw [if_pos playing]
      obtain ⟨frame, changed, others⟩ :=
        s.setInput_answered n fun i => { i with pending := some (inputConfigOf raw) }
      exact ⟨_, rfl, frame, changed, others⟩
    · rw [if_neg (by simp [still])]
      obtain ⟨frame, changed, others⟩ := s.setInput_answered n fun i => i.configure (inputConfigOf raw)
      exact ⟨_, rfl, frame, changed.trans (Input.configure_eq _ _), others⟩

end Sys2Proof.Machine

/-! OUTPUT_IDLE_SET, TIME_SET and TIME_GET, and what putting a Timebase in force changes. -/

namespace Sys2Proof.Machine

/-! ## A Timebase put in force -/

section
variable (s : State)

theorem State.setRun_state (s : State) : s.setRun s.run.state = s := rfl

/-- A report to the Run Controller changes no more than a waiting test point's wait (R158). -/
theorem State.reportToWait_eq (changed : Bool) (edge : Option EdgeReport) (t : Tick) :
    ∃ r, s.reportToWait changed edge t = s.setRun r ∧ ((∀ w, s.run.state ≠ .startWait w) → r = s.run.state) := by
  unfold State.reportToWait
  split
  · rename_i w h p wait active
    have outside : (∀ w, s.run.state ≠ .startWait w) → ∀ r, r = s.run.state := fun no => absurd wait (no w)
    split
    · exact ⟨s.run.state, s.setRun_state.symm, fun _ => rfl⟩
    · split
      · exact ⟨_, rfl, fun no => outside no _⟩
      · split
        · exact ⟨s.run.state, s.setRun_state.symm, fun _ => rfl⟩
        · exact ⟨_, rfl, fun no => outside no _⟩
  · exact ⟨s.run.state, s.setRun_state.symm, fun _ => rfl⟩

/-- A Timebase put in force: the TIME cause is raised on a change of lock or a step of the label (R158). -/
theorem State.setTimebase_eq (b : Timebase) (stepped : Bool) (edge : Option EdgeReport) (t : Tick) :
    ∃ r, s.setTimebase b stepped edge t = { s with
        time := b, run := { s.run with state := r }
        port := { s.port with time := s.port.time || decide (s.time.lock ≠ b.lock) || stepped } } ∧
      ((∀ w, s.run.state ≠ .startWait w) → r = s.run.state) := by
  have raised : (if decide (s.time.lock ≠ b.lock) || stepped then State.raiseTime { s with time := b }
      else { s with time := b }) = { s with
        time := b, port := { s.port with time := s.port.time || decide (s.time.lock ≠ b.lock) || stepped } } := by
    rw [Bool.or_assoc]
    cases decide (s.time.lock ≠ b.lock) || stepped <;> simp [State.raiseTime]
  unfold State.setTimebase
  simp only [raised]
  obtain ⟨r, report, outside⟩ := State.reportToWait_eq (s := { s with
    time := b, port := { s.port with time := s.port.time || decide (s.time.lock ≠ b.lock) || stepped } })
    (decide (s.time.lock ≠ b.lock)) edge t
  exact ⟨r, report, outside⟩

/-- An event of the Timebase at a tick not passed (R158). -/
theorem State.setTimebase_moves {t : Tick} (ahead : Tick.reached s.tick t = true) (b : Timebase) (stepped : Bool)
    (edge : Option EdgeReport) : TimebaseMoves s ((s.advanceTo t).setTimebase b stepped edge t) t b stepped := by
  rw [State.advanceTo_of_reached ahead]
  obtain ⟨r, moved, outside⟩ := State.setTimebase_eq (s := { s with tick := t }) b stepped edge t
  rw [moved]
  exact ⟨rfl, rfl, fun no => congrArg (fun r => { s.run with state := r }) (outside no)⟩

end

/-! ## TIME_SET -/

theorem Timebase.closedAt_of_not_predicted {b : Timebase} (kind : b.referenceKind ≠ .predicted) (t : Tick) :
    b.closedAt t = b.referenceClosed := by simp [Timebase.closedAt, kind]

theorem Timebase.holdoverElapsed_iff (b : Timebase) (t : Tick) : b.holdoverElapsed t = true ↔
    ∃ entry, b.holdoverEntry = some entry ∧ Tick.reached (entry + BitVec.ofNat 48 (1000000 * b.holdoverLimit)) t = true := by
  unfold Timebase.holdoverElapsed
  cases b.holdoverEntry <;> simp

theorem Timebase.judgeLimits_locked {b : Timebase} (lock : b.lock = .locked) (due : b.missedLimit ≤ b.missed) (t : Tick) :
    b.judgeLimits t = { b with lock := .holdover, holdoverEntry := some t } := by
  simp [Timebase.judgeLimits, lock, due]

theorem Timebase.judgeLimits_holdover {b : Timebase} {t : Tick} (lock : b.lock = .holdover)
    (due : b.holdoverElapsed t = true) : b.judgeLimits t = b.loseHoldover := by
  simp [Timebase.judgeLimits, lock, due]

theorem Timebase.judgeLimits_within {b : Timebase} {t : Tick} (missed : b.lock = .locked → b.missed < b.missedLimit)
    (holdover : b.lock = .holdover → b.holdoverElapsed t = false) : b.judgeLimits t = b := by
  unfold Timebase.judgeLimits
  split
  · rename_i lock
    exact if_neg (Nat.not_le.2 (missed lock))
  · rename_i lock
    simp [holdover lock]
  · rfl

theorem timeSetInRange_iff (window missed limit : Nat) : timeSetInRange window missed limit = true ↔
    20 ≤ window ∧ window ≤ 1000 ∧ (missed = 1 ∨ missed = 4) ∧ 1 ≤ limit ∧ limit ≤ 300 := by
  simp [timeSetInRange, and_assoc]

theorem exec_timeSet (s : State) {window missed limit : Nat} (good : timeSetInRange window missed limit = true) :
    exec (.timeSet window missed limit) s = .next ((s.setTimebase
      ((s.time.configure window missed limit s.tick).judgeLimits s.tick) false none s.tick).accept []) := by
  simp only [exec, execTimeSet, good, if_true]

/-! ## TIME_GET -/

theorem Lock.code_lt (l : Lock) : l.code < 256 := by cases l <;> decide

theorem labelPayload_length (l : Option Label) : (labelPayload l).length = 7 := by
  cases l <;> simp [labelPayload, byteOf]

theorem orZero_meanInterval (history : List Nat) : orZero (meanInterval history) = if history = [] then 0
    else (2 * history.sum + history.length) / (2 * history.length) := by
  unfold meanInterval
  split
  · rfl
  · rw [Nat.add_comm]
    rfl

/-- The mean of intervals in range fits its four bytes. -/
theorem orZero_meanInterval_lt {history : List Nat} (most : ∀ i ∈ history, i ≤ 1001000) :
    orZero (meanInterval history) < 256 ^ 4 := by
  rw [orZero_meanInterval]
  split
  · decide
  · rename_i some
    have sum := List.sum_le_card_nsmul history 1001000 most
    have := List.length_pos_iff.2 some
    rw [smul_eq_mul] at sum
    refine (Nat.div_lt_iff_lt_mul (by omega)).2 ?_
    omega

theorem Timebase.payload_eq (b : Timebase) (tick : Tick) : b.payload tick =
    bytesOf 6 tick.toNat ++ (bytesOf 1 b.lock.code ++ (bytesOf 1 b.acquisition ++ (bytesOf 1 b.missed ++
      (bytesOf 2 b.window ++ (bytesOf 1 b.missedLimit ++ (bytesOf 2 b.holdoverLimit ++ (labelPayload b.label ++
        (bytesOf 1 b.reference.isSome.toNat ++ (bytesOf 6 ((b.reference.map BitVec.toNat).getD 0) ++
          (bytesOf 4 (orZero (meanInterval b.history)) ++ (bytesOf 1 b.history.length ++
            (bytesOf 1 b.held.isSome.toNat ++ (bytesOf 2 b.spurious ++ (bytesOf 2 b.discards ++
              bytesOf 1 b.timeStep.toNat)))))))))))))) := by
  rw [Timebase.payload]
  simp only [List.append_assoc, tickPayload_eq, byteOf]

theorem Timebase.fieldAt_label (b : Timebase) (tick : Tick) {k width : Nat} (inside : k + width ≤ 7) :
    fieldAt (b.payload tick) (14 + k) width = fieldAt (labelPayload b.label) k width := by
  rw [Timebase.payload_eq]
  simp only [fieldAt_append_right, bytesOf_length, Nat.sub_sub, Nat.reduceAdd, show 6 ≤ 14 + k by omega,
    show 1 ≤ 14 + k - 6 by omega, show 1 ≤ 14 + k - 7 by omega, show 1 ≤ 14 + k - 8 by omega,
    show 2 ≤ 14 + k - 9 by omega, show 1 ≤ 14 + k - 11 by omega, show 2 ≤ 14 + k - 12 by omega, Nat.add_sub_cancel_left]
  exact fieldAt_append_left _ _ (by rw [labelPayload_length]; exact inside)

theorem fieldAt_labelPayload_known (l : Option Label) : fieldAt (labelPayload l) 0 1 = l.isSome.toNat := by
  cases l <;> simp [labelPayload, byteOf]

theorem fieldAt_labelPayload {l : Label} (valid : l.valid) (quality : l.quality < 256) :
    fieldAt (labelPayload (some l)) 1 2 = l.day ∧ fieldAt (labelPayload (some l)) 3 3 = l.second ∧
      fieldAt (labelPayload (some l)) 6 1 = l.quality := by
  obtain ⟨day, second⟩ := valid
  simp only [labelPayload, byteOf, List.append_assoc, fieldAt_append_right, fieldAt_front, fieldAt_single,
    bytesOf_length, Nat.reduceLeDiff, Nat.reduceSub, Nat.reducePow, Nat.le_refl, Nat.sub_self]
  omega

/-- The layout of TIME_GET (R157). -/
theorem TimeInv.payload_laidOut {s : State} (i : TimeInv s) (acquisition : s.time.acquisition < 256)
    (missed : s.time.missed < 256) :
    let p := s.time.payload s.tick
    p.length = 39 ∧ fieldAt p 0 6 = s.tick.toNat ∧ fieldAt p 6 1 = s.time.lock.code ∧
      fieldAt p 7 1 = s.time.acquisition ∧ fieldAt p 8 1 = s.time.missed ∧ fieldAt p 9 2 = s.time.window ∧
      fieldAt p 11 1 = s.time.missedLimit ∧ fieldAt p 12 2 = s.time.holdoverLimit ∧
      fieldAt p 14 1 = s.time.label.isSome.toNat ∧
      (∀ l, s.time.label = some l → l.quality < 256 →
         fieldAt p 15 2 = l.day ∧ fieldAt p 17 3 = l.second ∧ fieldAt p 20 1 = l.quality) ∧
      fieldAt p 21 1 = s.time.reference.isSome.toNat ∧
      (∀ r, s.time.reference = some r → fieldAt p 22 6 = r.toNat) ∧
      fieldAt p 28 4 = orZero (meanInterval s.time.history) ∧
      fieldAt p 32 1 = s.time.history.length ∧ fieldAt p 33 1 = s.time.held.isSome.toNat ∧
      fieldAt p 34 2 = s.time.spurious ∧ fieldAt p 36 2 = s.time.discards ∧
      fieldAt p 38 1 = s.time.timeStep.toNat := by
  obtain ⟨low, high, limit, shortest, longest⟩ := (timeSetInRange_iff _ _ _).1 i.setup
  have tick := s.tick.isLt
  have lock := s.time.lock.code_lt
  have history := i.history
  obtain ⟨spurious, discards⟩ := i.counts
  have reference := tick_getD_lt s.time.reference
  have mean := orZero_meanInterval_lt fun k hk => (i.intervals k hk).2
  have flag : ∀ b : Bool, b.toNat % 256 = b.toNat := fun b => Nat.mod_eq_of_lt (b.toNat_le.trans_lt (by decide))
  have field : ∀ {k width v : Nat}, fieldAt (s.time.payload s.tick) k width = v % 256 ^ width → v < 256 ^ width →
      fieldAt (s.time.payload s.tick) k width = v := fun at_ small => at_.trans (Nat.mod_eq_of_lt small)
  have label {k width : Nat} := s.time.fieldAt_label s.tick (k := k) (width := width)
  refine ⟨?_, field ?_ (by omega), field ?_ (by omega), field ?_ (by omega), field ?_ (by omega), field ?_ (by omega),
    field ?_ (by omega), field ?_ (by omega), (label (k := 0) (by omega)).trans (fieldAt_labelPayload_known _),
    fun l known quality => ?_, ?_, fun r known => ?_, field ?_ mean, field ?_ (by omega), ?_, field ?_ (by omega),
    field ?_ (by omega), ?_⟩
  case refine_9 =>
    obtain ⟨day, second, q⟩ := fieldAt_labelPayload (i.label l known) quality
    rw [← known] at day second q
    exact ⟨(label (k := 1) (by omega)).trans day, (label (k := 3) (by omega)).trans second,
      (label (k := 6) (by omega)).trans q⟩
  all_goals
    rw [Timebase.payload_eq]
    simp only [List.length_append, fieldAt_append_right, fieldAt_front, fieldAt_single, bytesOf_length,
      labelPayload_length, Nat.reduceLeDiff, Nat.reduceSub, Nat.reducePow, Nat.reduceAdd, Nat.le_refl, Nat.sub_self, flag]
  rw [known] at reference ⊢
  exact Nat.mod_eq_of_lt reference

/-- Settles O30: TIME_SET puts the three values in force and judges the limits; TIME_GET lays the Timebase out. -/
theorem timeSetAndTimeGet : Obligations.TimeSetAndTimeGet := by
  refine ⟨fun s window missed limit => ⟨fun bad => ?_, fun good => ?_⟩, fun s i acquisition missed => ?_⟩
  · refine refusedWith_of_refuse (code := .badValue) rfl (if_neg fun inRange => bad ?_)
    exact (timeSetInRange_iff _ _ _).1 inRange
  · obtain ⟨r, moved, outside⟩ := s.setTimebase_eq
      ((s.time.configure window missed limit s.tick).judgeLimits s.tick) false none s.tick
    rw [Bool.or_false] at moved
    refine ⟨_, s.time.configure window missed limit s.tick, exec_timeSet s ((timeSetInRange_iff _ _ _).2 good), rfl,
      fun kind => Timebase.closedAt_of_not_predicted kind _, ?_⟩
    rw [moved]
    refine ⟨rfl, fun no => congrArg (fun r => { s.run with state := r }) (outside no), fun lock due => ?_,
      fun lock due => ?_, fun notMissed notElapsed => ?_⟩
    · exact Timebase.judgeLimits_locked (b := s.time.configure window missed limit s.tick) lock due _
    · exact Timebase.judgeLimits_holdover lock ((Timebase.holdoverElapsed_iff _ _).2 due)
    · exact Timebase.judgeLimits_within notMissed fun lock =>
        Bool.eq_false_iff.2 fun due => notElapsed lock ((Timebase.holdoverElapsed_iff _ _).1 due)
  · have laidOut := i.payload_laidOut acquisition missed
    rw [orZero_meanInterval] at laidOut
    exact ⟨_, rfl, laidOut⟩

/-! ## OUTPUT_IDLE_SET -/

theorem State.abortCore_idleOutputs (s : State) (h : Nat) (p : TestPoint) (reason : AbortReason) (t : Tick) :
    (s.abortCore h p reason t).idleOutputs = s.idleOutputs := by
  unfold State.abortCore
  dsimp only
  split <;> rfl

theorem State.abortActive_outputs {s : State} {h : Nat} {p : TestPoint} (active : s.activePoint = some (h, p))
    (reason : AbortReason) (t : Tick) : (s.abortActive reason t).gen.outputs = s.idleOutputs := by
  obtain ⟨rest, -⟩ := s.abortCore_rest h p reason t
  simp only [State.abortActive, active]
  exact rest.outputs.trans (s.abortCore_idleOutputs h p reason t)

theorem State.atInstant_activePoint (s : State) (t : Tick) : (s.atInstant t).activePoint = s.activePoint := by
  simp [State.activePoint, State.point?]

theorem Tick.instantAtOrAfter_of_instant {t : Tick} (instant : t.isGeneratorInstant = true) :
    Tick.instantAtOrAfter t = t := by
  have small := t.isLt
  have multiple : t.toNat % 20 = 0 := by simpa [Tick.isGeneratorInstant] using instant
  have up : (t.toNat + 19) / 20 * 20 = t.toNat := by omega
  simp [Tick.instantAtOrAfter, up, small]

theorem exec_shotAbort {s : State} {t : Tick} (instant : t.isGeneratorInstant = true) {h : Nat} {p : TestPoint}
    (active : s.activePoint = some (h, p)) :
    exec (.shotAbort t) s = .next (((s.atInstant t).abortActive .command t).accept []) := by
  have still := (s.atInstant_activePoint t).trans active
  simp only [exec, execShotAbort, Tick.instantAtOrAfter_of_instant instant, still]

theorem runReset_outputs {s u : State} {t : Tick} (run : exec (.runReset t) s = .next u) :
    u.idleOutputs = s.idleOutputs ∧ u.gen.outputs = s.idleOutputs := by
  cases run
  have kept : ∀ k : State, k.toRest.applyPending.idleOutputs = k.idleOutputs ∧
      k.toRest.applyPending.gen.outputs = k.idleOutputs := fun k => ⟨rfl, rfl⟩
  simp only [State.accept_idleOutputs, State.accept_gen, State.raiseQueueEmpty_idleOutputs, State.raiseQueueEmpty_gen,
    kept]
  split
  · simp only [State.abortCore_idleOutputs, State.atInstant_idleOutputs, and_self]
  · simp only [State.atInstant_idleOutputs, and_self]

/-- What an accepted OUTPUT_IDLE_SET leaves (R113). -/
def State.withIdle (s : State) (mask : Nat) : State :=
  { s with
    idleOutputs := BitVec.ofNat 4 mask
    gen := if s.gen.snapshot = none then { s.gen with outputs := BitVec.ofNat 4 mask } else s.gen }.accept []

theorem exec_outputIdleSet (s : State) {mask : Nat} (good : mask ≤ 15) :
    exec (.outputIdleSet mask) s = .next (s.withIdle mask) := by
  have small : ¬ 16 ≤ mask := by omega
  simp only [exec, execOutputIdleSet, if_neg small, State.withIdle]

theorem State.withIdle_eq (s : State) (mask : Nat) : s.withIdle mask = { s with
    idleOutputs := BitVec.ofNat 4 mask, gen := { s.gen with outputs := (s.withIdle mask).gen.outputs }
    port := s.port.answered 0 [] } ∧
    (s.gen.snapshot = none → (s.withIdle mask).gen.outputs = BitVec.ofNat 4 mask) ∧
    (s.gen.snapshot ≠ none → (s.withIdle mask).gen.outputs = s.gen.outputs) := by
  unfold State.withIdle
  split
  · rename_i rest
    exact ⟨rfl, fun _ => rfl, fun no => absurd rest no⟩
  · rename_i inPlay
    exact ⟨rfl, fun rest => absurd rest inPlay, fun _ => rfl⟩

/-- Settles O29: the idle levels are replaced, and every transition to rest drives them. -/
theorem outputIdleSetReplacesTheIdleLevels : Obligations.OutputIdleSetReplacesTheIdleLevels := by
  refine fun s => ⟨fun mask bad => ?_, fun mask good => ?_, fun t u run => runReset_outputs run, fun found u run => ?_⟩
  · refine refusedWith_of_refuse (code := .badValue) rfl (if_pos ?_)
    omega
  · obtain ⟨frame, rest, inPlay⟩ := s.withIdle_eq mask
    refine ⟨_, exec_outputIdleSet s good, frame, rest, inPlay, fun n => ?_, fun t h p w ahead active run => ?_⟩
    · obtain ⟨length, levels⟩ := ((s.withIdle mask).inputs.get n).fieldAt_idle (BitVec.ofNat 4 mask)
      refine ⟨_, ?_, length, levels.trans ?_⟩
      · simp only [exec, execInputGet, State.onInput_number]
        rfl
      · rw [BitVec.toNat_ofNat]
        omega
    · rw [exec_shotAbort ahead.1 active] at run
      cases run
      have still := ((s.withIdle mask).atInstant_activePoint t).trans active
      exact (State.abortActive_outputs still _ _).trans (State.atInstant_idleOutputs _ _)
  · cases run
    exact ⟨rfl, rfl⟩

end Sys2Proof.Machine

/-! What pulses, closing windows and limits do to the lock (R148 to R153). -/

namespace Sys2Proof.Machine

/-! ## Windows and intervals -/

/-- The window of half-width W about a centre some ticks after another tick, by the distance from that tick (R149). -/
theorem inWindow_iff {window centre : Nat} (r t : Tick) (narrow : window ≤ centre) (small : centre + window < 2 ^ 48) :
    inWindow window (r + BitVec.ofNat 48 centre) t = true ↔
      centre ≤ Tick.elapsed r t + window ∧ Tick.elapsed r t ≤ centre + window := by
  simp only [inWindow, Tick.elapsed, decide_eq_true_eq, BitVec.toNat_sub, BitVec.toNat_add, BitVec.toNat_ofNat]
  have := r.isLt
  have := t.isLt
  omega

/-- A sum of two counts of ticks after a tick. -/
theorem tick_add_ofNat (r : Tick) (m n : Nat) :
    r + BitVec.ofNat 48 m + BitVec.ofNat 48 n = r + BitVec.ofNat 48 (m + n) := by
  rw [BitVec.add_assoc, ← BitVec.ofNat_add]

theorem joinHistory_eq (history : List Nat) (interval : Nat) : joinHistory history interval = joined history interval := by
  unfold joinHistory joined
  split <;> simp

theorem Timebase.interval_eq {b : Timebase} (some : 1 ≤ b.history.length) : b.interval = meanOf b.history := by
  have present : b.history ≠ [] := List.length_pos_iff.1 some
  simp [Timebase.interval, meanInterval, present, roundHalfUp, meanOf, Nat.add_comm]

/-- The mean of intervals in range is in range (R152). -/
theorem meanOf_range {history : List Nat} (some : 1 ≤ history.length)
    (range : ∀ i ∈ history, 999000 ≤ i ∧ i ≤ 1001000) : 999000 ≤ meanOf history ∧ meanOf history ≤ 1001000 := by
  have low := List.card_nsmul_le_sum history 999000 fun i hi => (range i hi).1
  have high := List.sum_le_card_nsmul history 1001000 fun i hi => (range i hi).2
  rw [smul_eq_mul] at low high
  unfold meanOf
  constructor
  · exact (Nat.le_div_iff_mul_le (by omega)).2 (by omega)
  · exact Nat.le_of_lt_succ ((Nat.div_lt_iff_lt_mul (by omega)).2 (by omega))

section
variable {s : State} {r t : Tick}

theorem TimeInv.interval (i : TimeInv s) (enough : 3 ≤ s.time.history.length) :
    s.time.interval = meanOf s.time.history ∧ 999000 ≤ meanOf s.time.history ∧ meanOf s.time.history ≤ 1001000 :=
  ⟨Timebase.interval_eq (by omega), meanOf_range (by omega) i.intervals⟩

/-- The window about the expected edge, by the distance from the reference edge (R150, R151). -/
theorem TimeInv.inWindow_expected (i : TimeInv s) (enough : 3 ≤ s.time.history.length) (r t : Tick) :
    inWindow s.time.window (s.time.expectedEdge r) t = true ↔
      meanOf s.time.history ≤ Tick.elapsed r t + s.time.window ∧
        Tick.elapsed r t ≤ meanOf s.time.history + s.time.window := by
  obtain ⟨mean, low, high⟩ := i.interval enough
  have window := i.window
  rw [Timebase.expectedEdge, mean]
  exact inWindow_iff r t (by omega) (by omega)

theorem TimeInv.inWindow_second (i : TimeInv s) (r t : Tick) :
    inWindow s.time.window (r + BitVec.ofNat 48 Config.nominalSecond) t = true ↔
      1000000 ≤ Tick.elapsed r t + s.time.window ∧ Tick.elapsed r t ≤ 1000000 + s.time.window := by
  have window := i.window
  exact inWindow_iff r t (by simp only [Config.nominalSecond]; omega) (by simp only [Config.nominalSecond]; omega)

end

/-! ## What a pulse is taken as -/

section
variable {b : Timebase} {r t : Tick}

theorem Timebase.takePulse_free (lock : b.lock = .free) : b.takePulse t = .edge (b.pulseFree t) := by
  simp only [Timebase.takePulse, lock]

theorem Timebase.takePulse_acquiring (lock : b.lock = .acquiring) (reference : b.reference = some r) : b.takePulse t =
    if inWindow b.window (r + BitVec.ofNat 48 Config.nominalSecond) t then .edge (b.pulseAcquired r t)
    else .edge (b.pulseRestart t) := by
  simp only [Timebase.takePulse, lock, reference]

theorem Timebase.takePulse_locked (lock : b.lock = .locked) (reference : b.reference = some r) : b.takePulse t =
    if inWindow b.window (b.expectedEdge r) t then .edge (b.pulseAccepted r t)
    else .quiet { b with spurious := saturate 65535 (b.spurious + 1) } := by
  simp only [Timebase.takePulse, lock, reference]

theorem Timebase.takePulse_holdover (lock : b.lock = .holdover) (reference : b.reference = some r) : b.takePulse t =
    if inWindow b.window (b.expectedEdge r) t then .edge (b.pulseRegained t)
    else if b.afterPredicted r t then .quiet (b.pulseAfterPredicted t)
    else .edge (b.pulseRestart t) := by
  simp only [Timebase.takePulse, lock, reference]

theorem Timebase.afterPredicted_iff (b : Timebase) (r t : Tick) : b.afterPredicted r t = true ↔
    b.referenceKind = .predicted ∧ b.referenceClosed = false ∧ Tick.elapsed r t ≤ b.window := by
  simp [Timebase.afterPredicted, and_assoc]

/-- A rise that is captured goes through the lock machine (R148). -/
theorem exec_pulse {s : State} {t : Tick} (rise : s.riseAhead t) :
    exec (.pulse t) s = .next (({ s with tick := t, time := s.time.readHigh t } : State).pulse t) := by
  obtain ⟨ahead, other, later⟩ := rise
  refine congrArg Host.Outcome.next (State.happen_of ahead ?_)
  simp only [LineReading.mayRise, other, ne_eq, not_false_eq_true, decide_true, Bool.true_and, Bool.not_eq_true',
    Bool.and_eq_false_iff, decide_eq_false_iff_not]
  cases high : s.time.pps.high
  · exact .inl rfl
  · exact .inr (later high)

/-- A Timebase of the same lock put in force at a tick reached (R158). -/
theorem State.setTimebase_moves_from (s : State) (t : Tick) {c : Timebase} (lock : c.lock = s.time.lock) (b : Timebase)
    (stepped : Bool) (edge : Option EdgeReport) :
    TimebaseMoves s (State.setTimebase { s with tick := t, time := c } b stepped edge t) t b stepped := by
  obtain ⟨run, moved, outside⟩ := State.setTimebase_eq (s := { s with tick := t, time := c }) b stepped edge t
  rw [moved]
  refine ⟨rfl, ?_, fun no => congrArg (fun run => { s.run with state := run }) (outside no)⟩
  simp only [lock]

/-- A pulse taken as a second edge. -/
theorem pulse_takes_edge {s : State} (rise : s.riseAhead t) {m n : Timebase}
    (taken : (s.time.readHigh t).takePulse t = .edge m) (gives : m = n) :
    ∃ u, exec (.pulse t) s = .next u ∧ TimebaseMoves s u t n s.time.stepsAhead := by
  subst gives
  refine ⟨_, exec_pulse rise, ?_⟩
  unfold State.pulse
  simp only [taken]
  rw [Timebase.stepsLabel_eq]
  exact s.setTimebase_moves_from t rfl _ _ _

/-- A pulse that is no second edge. -/
theorem pulse_takes_quietly {s : State} (rise : s.riseAhead t) {n : Timebase}
    (taken : (s.time.readHigh t).takePulse t = .quiet n) :
    ∃ u, exec (.pulse t) s = .next u ∧ TimebaseMoves s u t n false := by
  refine ⟨_, exec_pulse rise, ?_⟩
  unfold State.pulse
  simp only [taken]
  exact s.setTimebase_moves_from t rfl n _ _

end

/-! ## The Timebase each pulse gives -/

section
variable (b : Timebase) (r t : Tick)

theorem Timebase.pulseFree_eq : (b.readHigh t).pulseFree t =
    { b.atEdge .pulse t false with lock := .acquiring, acquisition := 1, pps := { high := true, readAt := t } } := by
  rw [Timebase.pulseFree, Timebase.secondEdge_eq]
  rfl

theorem Timebase.pulseRestart_eq : (b.readHigh t).pulseRestart t =
    { b.atEdge .pulse t true with
      lock := .acquiring, acquisition := 1, holdoverEntry := none, pps := { high := true, readAt := t } } := by
  rw [Timebase.pulseRestart, Timebase.secondEdge_eq]
  rfl

theorem Timebase.pulseAcquired_counts (few : b.acquisition < 3) : (b.readHigh t).pulseAcquired r t =
    { b.atEdge .pulse t false with
      history := joined b.history (Tick.elapsed r t), acquisition := b.acquisition + 1
      pps := { high := true, readAt := t } } := by
  have more : ¬ 4 ≤ (b.readHigh t).acquisition + 1 := by
    rw [Timebase.readHigh_acquisition]
    omega
  simp only [Timebase.pulseAcquired, Timebase.secondEdge_eq, joinHistory_eq, if_neg more]
  rfl

theorem Timebase.pulseAcquired_locks (three : b.acquisition = 3) : (b.readHigh t).pulseAcquired r t =
    { b.atEdge .pulse t false with
      history := joined b.history (Tick.elapsed r t), lock := .locked, acquisition := 0, missed := 0
      pps := { high := true, readAt := t } } := by
  have fourth : 4 ≤ (b.readHigh t).acquisition + 1 := by
    rw [Timebase.readHigh_acquisition]
    omega
  simp only [Timebase.pulseAcquired, Timebase.secondEdge_eq, joinHistory_eq, if_pos fourth]
  rfl

theorem Timebase.pulseAccepted_eq : (b.readHigh t).pulseAccepted r t =
    { b.atEdge .pulse t false with
      missed := 0
      history :=
        if b.referenceKind = .pulse ∧ 1000000 ≤ Tick.elapsed r t + b.window ∧ Tick.elapsed r t ≤ 1000000 + b.window
        then joined b.history (Tick.elapsed r t) else b.history
      pps := { high := true, readAt := t } } := by
  have joins : (decide (b.referenceKind = .pulse) && decide (Config.nominalSecond - b.window ≤ Tick.elapsed r t) &&
      decide (Tick.elapsed r t ≤ Config.nominalSecond + b.window)) = true ↔
      b.referenceKind = .pulse ∧ 1000000 ≤ Tick.elapsed r t + b.window ∧ Tick.elapsed r t ≤ 1000000 + b.window := by
    rw [Bool.and_eq_true, Bool.and_eq_true, decide_eq_true_iff, decide_eq_true_iff, decide_eq_true_iff, and_assoc,
      Nat.sub_le_iff_le_add]
    rfl
  rw [Timebase.pulseAccepted, Timebase.secondEdge_eq, joinHistory_eq]
  exact congrArg (fun history => { b.atEdge .pulse t false with
    missed := 0, history := history, pps := { high := true, readAt := t } }) (if_congr joins rfl rfl)

theorem Timebase.pulseRegained_eq : (b.readHigh t).pulseRegained t =
    { b.atEdge .pulse t false with
      lock := .locked, missed := 0, holdoverEntry := none, pps := { high := true, readAt := t } } := by
  rw [Timebase.pulseRegained, Timebase.secondEdge_eq]
  rfl

end

/-! ## Pulses in each lock state -/

section
variable {s : State} {r t : Tick}

theorem TimeInv.readHigh (i : TimeInv s) (t : Tick) : TimeInv { s with time := s.time.readHigh t } :=
  { i with lock := i.lock }

theorem TimeInv.pulse_acquiring (i : TimeInv s) (lock : s.time.lock = .acquiring) (reference : s.time.reference = some r) :
    let gap := Tick.elapsed r t
    let second := 1000000 ≤ gap + s.time.window ∧ gap ≤ 1000000 + s.time.window
    (second → (s.time.readHigh t).takePulse t = .edge ((s.time.readHigh t).pulseAcquired r t)) ∧
      (¬ second → (s.time.readHigh t).takePulse t = .edge ((s.time.readHigh t).pulseRestart t)) := by
  rw [Timebase.takePulse_acquiring (b := s.time.readHigh t) lock reference]
  have window := (i.readHigh t).inWindow_second r t
  exact ⟨fun inside => if_pos (window.2 inside), fun outside => if_neg fun inside => outside (window.1 inside)⟩

theorem TimeInv.pulse_locked (i : TimeInv s) (lock : s.time.lock = .locked) (reference : s.time.reference = some r) :
    let gap := Tick.elapsed r t
    let expected := meanOf s.time.history ≤ gap + s.time.window ∧ gap ≤ meanOf s.time.history + s.time.window
    (expected → (s.time.readHigh t).takePulse t = .edge ((s.time.readHigh t).pulseAccepted r t)) ∧
      (¬ expected → (s.time.readHigh t).takePulse t =
        .quiet { s.time.readHigh t with spurious := saturate 65535 (s.time.spurious + 1) }) := by
  rw [Timebase.takePulse_locked (b := s.time.readHigh t) lock reference]
  have window := (i.readHigh t).inWindow_expected (i.locked lock).2.1 r t
  exact ⟨fun inside => if_pos (window.2 inside), fun outside => if_neg fun inside => outside (window.1 inside)⟩

theorem TimeInv.pulse_holdover (i : TimeInv s) (lock : s.time.lock = .holdover) (reference : s.time.reference = some r) :
    let gap := Tick.elapsed r t
    let expected := meanOf s.time.history ≤ gap + s.time.window ∧ gap ≤ meanOf s.time.history + s.time.window
    let predicted := s.time.referenceKind = .predicted ∧ s.time.referenceClosed = false ∧ gap ≤ s.time.window
    (expected → (s.time.readHigh t).takePulse t = .edge ((s.time.readHigh t).pulseRegained t)) ∧
      (¬ expected → predicted → (s.time.readHigh t).takePulse t = .quiet ((s.time.readHigh t).pulseAfterPredicted t)) ∧
      (¬ expected → ¬ predicted → (s.time.readHigh t).takePulse t = .edge ((s.time.readHigh t).pulseRestart t)) := by
  rw [Timebase.takePulse_holdover (b := s.time.readHigh t) lock reference]
  have window := (i.readHigh t).inWindow_expected (i.holdover lock).2.1 r t
  have after := (s.time.readHigh t).afterPredicted_iff r t
  refine ⟨fun inside => if_pos (window.2 inside), fun outside predicted => ?_, fun outside other => ?_⟩
  · rw [if_neg fun inside => outside (window.1 inside), if_pos (after.2 predicted)]
  · rw [if_neg fun inside => outside (window.1 inside), if_neg fun predicted => other (after.1 predicted)]

end

/-- Settles O47: the lock state and the window decide what a pulse is taken as. -/
theorem pulsesMoveTheLock : Obligations.PulsesMoveTheLock := by
  refine ⟨fun s t ahead no => exec_pulse_ignored ahead no, fun s t i rise => ⟨fun lock => ?_, fun r reference =>
    ⟨fun lock => ?_, fun lock => ?_, fun lock => ?_⟩⟩⟩
  · exact pulse_takes_edge rise (Timebase.takePulse_free (b := s.time.readHigh t) lock) (Timebase.pulseFree_eq _ _)
  · obtain ⟨inside, outside⟩ := i.pulse_acquiring (t := t) lock reference
    exact ⟨fun second few => pulse_takes_edge rise (inside second) (Timebase.pulseAcquired_counts _ _ _ few),
      fun second three => pulse_takes_edge rise (inside second) (Timebase.pulseAcquired_locks _ _ _ three),
      fun no => pulse_takes_edge rise (outside no) (Timebase.pulseRestart_eq _ _)⟩
  · obtain ⟨inside, outside⟩ := i.pulse_locked (t := t) lock reference
    exact ⟨fun expected => pulse_takes_edge rise (inside expected) (Timebase.pulseAccepted_eq _ _ _),
      fun no => pulse_takes_quietly rise (outside no)⟩
  · obtain ⟨inside, after, outside⟩ := i.pulse_holdover (t := t) lock reference
    exact ⟨fun expected => pulse_takes_edge rise (inside expected) (Timebase.pulseRegained_eq _ _),
      fun no predicted => pulse_takes_quietly rise (after no predicted),
      fun no other => pulse_takes_edge rise (outside no other) (Timebase.pulseRestart_eq _ _)⟩

/-! ## Closing windows, predicted edges and limits -/

section
variable {s : State} {r t : Tick}

theorem TimeInv.missedAt (i : TimeInv s) (lock : s.time.lock = .locked) (reference : s.time.reference = some r)
    (closed : Tick.reached (r + BitVec.ofNat 48 (meanOf s.time.history) + BitVec.ofNat 48 (s.time.window + 1)) t = true) :
    s.time.missedAt t = some (r + BitVec.ofNat 48 (meanOf s.time.history)) := by
  obtain ⟨mean, -, -⟩ := i.interval (i.locked lock).2.1
  simp only [Timebase.missedAt, lock, reference, Timebase.expectedEdge, mean, windowClosed, closed, if_true]

theorem TimeInv.predictedAt (i : TimeInv s) (lock : s.time.lock = .holdover) (reference : s.time.reference = some r)
    (due : Tick.reached (r + BitVec.ofNat 48 (meanOf s.time.history)) t = true) :
    s.time.predictedAt t = some (r + BitVec.ofNat 48 (meanOf s.time.history)) := by
  obtain ⟨mean, -, -⟩ := i.interval (i.holdover lock).2.1
  simp only [Timebase.predictedAt, lock, reference, Timebase.expectedEdge, mean, due, if_true]

theorem exec_acquisitionWindowCloses (ahead : Tick.reached s.tick t = true) (lock : s.time.lock = .acquiring)
    (reference : s.time.reference = some r)
    (closed : Tick.reached (r + BitVec.ofNat 48 (1000000 + s.time.window + 1)) t = true) :
    exec (.acquisitionWindowCloses t) s = .next ((s.advanceTo t).setTimebase s.time.toFree false none t) := by
  rw [Nat.add_assoc, ← tick_add_ofNat] at closed
  refine congrArg Host.Outcome.next ((State.happen_of ahead ?_).trans ?_)
  · simp only [Timebase.acquisitionCloses, lock, reference, windowClosed, Config.nominalSecond, closed]
  · rw [State.advanceTo_of_reached ahead]

theorem exec_missedEdge {edge : Tick} (missed : s.time.missedAt t = some edge) :
    exec (.missedEdge t) s = .next ((s.advanceTo t).setTimebase (s.time.missEdge edge t) s.time.stepsAhead
      (some { kind := .missed, edge := edge }) t) := by
  refine congrArg Host.Outcome.next ?_
  simp only [State.missEdge, State.advanceTo_time, missed, Timebase.stepsLabel_eq]

theorem exec_predictedEdge {edge : Tick} (due : s.time.predictedAt t = some edge) :
    exec (.predictedEdge t) s = .next ((s.advanceTo t).setTimebase (s.time.atEdge .predicted edge false)
      s.time.stepsAhead (some { kind := .predicted, edge := edge }) t) := by
  refine congrArg Host.Outcome.next ?_
  simp only [State.predictEdge, State.advanceTo_time, due, Timebase.stepsLabel_eq, Timebase.secondEdge_eq]

theorem exec_holdoverLimitElapses (ahead : Tick.reached s.tick t = true) (lock : s.time.lock = .holdover) {entry : Tick}
    (held : s.time.holdoverEntry = some entry)
    (due : Tick.reached (entry + BitVec.ofNat 48 (1000000 * s.time.holdoverLimit)) t = true) :
    exec (.holdoverLimitElapses t) s = .next ((s.advanceTo t).setTimebase s.time.loseHoldover false none t) := by
  refine congrArg Host.Outcome.next ((State.happen_of ahead ?_).trans ?_)
  · simp only [lock, decide_true, Bool.true_and]
    exact (s.time.holdoverElapsed_iff t).2 ⟨entry, held, due⟩
  · rw [State.advanceTo_of_reached ahead]

theorem Timebase.missEdge_below {b : Timebase} (edge t : Tick) (below : b.missed + 1 < b.missedLimit) :
    b.missEdge edge t = { b.atEdge .missed edge false with missed := b.missed + 1 } := by
  rw [Timebase.missEdge, Timebase.secondEdge_eq, if_neg (Nat.not_le.2 below)]

theorem Timebase.missEdge_at {b : Timebase} (edge t : Tick) (limit : b.missed + 1 = b.missedLimit) :
    b.missEdge edge t =
      { b.atEdge .missed edge false with missed := b.missed + 1, lock := .holdover, holdoverEntry := some t } := by
  rw [Timebase.missEdge, Timebase.secondEdge_eq, if_pos limit.ge]

end

/-- Settles O48: each closing window, predicted edge and limit moves the lock as its rule says. -/
theorem windowsAndLimitsMoveTheLock : Obligations.WindowsAndLimitsMoveTheLock := by
  refine fun s t r i ahead reference => ⟨fun lock closed => ?_, fun lock closed => ⟨fun below => ?_, fun limit => ?_⟩,
    fun lock => ⟨fun due => ?_, fun entry held due => ?_⟩⟩
  · exact ⟨_, exec_acquisitionWindowCloses ahead lock reference closed, s.setTimebase_moves ahead _ _ _⟩
  · refine ⟨_, exec_missedEdge (i.missedAt lock reference closed), ?_⟩
    rw [Timebase.missEdge_below _ _ below]
    exact s.setTimebase_moves ahead _ _ _
  · refine ⟨_, exec_missedEdge (i.missedAt lock reference closed), ?_⟩
    rw [Timebase.missEdge_at _ _ limit]
    exact s.setTimebase_moves ahead _ _ _
  · exact ⟨_, exec_predictedEdge (i.predictedAt lock reference due), s.setTimebase_moves ahead _ _ _⟩
  · exact ⟨_, exec_holdoverLimitElapses ahead lock held due, s.setTimebase_moves ahead _ _ _⟩

end Sys2Proof.Machine

/-! START_WAIT: what a waiting test point hears of the Timebase (R160, R161). -/

namespace Sys2Proof.Machine

/-! ## A report to the wait -/

/-- A wait after a report of a Timebase, of a change of its lock and of a second edge (R158, R160). -/
def StartWait.hears (w : StartWait) (b : Timebase) (changed : Bool) (start : StartMode) (edge : Option EdgeReport)
    (t : Tick) : StartWait :=
  if changed && lockLost w.policy b.lock then { w with lost := some t }
  else match edge with
    | none => w
    | some e => w.onEdge b start e t

section
variable {s : State} {w : StartWait} {h : Nat} {p : TestPoint}

theorem State.reportToWait_run (wait : s.run.state = .startWait w) (going : w.lost = none)
    (active : s.activePoint = some (h, p)) (changed : Bool) (edge : Option EdgeReport) (t : Tick) :
    (s.reportToWait changed edge t).run =
      { s.run with state := .startWait (w.hears s.time changed p.content.start edge t) } := by
  have same : s.run = { s.run with state := .startWait w } := by rw [← wait]
  unfold State.reportToWait StartWait.hears
  simp only [wait, active, going, Option.isSome_none]
  split
  · contradiction
  · split
    · rfl
    · cases edge with
      | none => exact same
      | some e => rfl

/-- A Timebase put in force as the waiting test point hears it. -/
theorem State.setTimebase_wait (wait : s.run.state = .startWait w) (going : w.lost = none)
    (active : s.activePoint = some (h, p)) (t : Tick) (b : Timebase) (stepped : Bool) (edge : Option EdgeReport) :
    (s.setTimebase b stepped edge t).run = { s.run with
      state := .startWait (w.hears b (decide (s.time.lock ≠ b.lock)) p.content.start edge t) } := by
  unfold State.setTimebase
  dsimp only
  split
  · exact State.reportToWait_run (s := State.raiseTime { s with time := b }) wait going active _ _ _
  · exact State.reportToWait_run (s := { s with time := b }) wait going active _ _ _

end

section
variable {w : StartWait} {b : Timebase} {changed : Bool} {start : StartMode} {edge : Option EdgeReport} {t : Tick}

theorem StartWait.hears_lost (change : changed = true) (lock : lockLost w.policy b.lock = true) :
    w.hears b changed start edge t = { w with lost := some t } := by
  simp [StartWait.hears, change, lock]

theorem StartWait.hears_nothing (kept : (changed && lockLost w.policy b.lock) = false) :
    w.hears b changed start none t = w := by
  simp [StartWait.hears, kept]

theorem StartWait.hears_edge (kept : (changed && lockLost w.policy b.lock) = false) (e : EdgeReport) :
    w.hears b changed start (some e) t = w.onEdge b start e t := by
  simp [StartWait.hears, kept]

theorem StartWait.onEdge_started (started : w.start ≠ none) (e : EdgeReport) : w.onEdge b start e t = w := by
  unfold StartWait.onEdge
  split
  · contradiction
  · rfl

end

/-! ## The start tick -/

/-- A start edge's tick plus its converted offset, in ticks (R161). -/
def startSum (edge : Tick) (offset interval : Nat) : Nat :=
  edge.toNat + (1000000 + 2 * (offset * interval)) / 2000000

/-- The start tick is the next multiple of 20, and the skew is what it adds (R161). -/
theorem startTickOf_eq {edge : Tick} {offset interval : Nat} (small : startSum edge offset interval + 20 < 2 ^ 48) :
    startTickOf edge offset interval =
      (BitVec.ofNat 48 ((startSum edge offset interval + 19) / 20 * 20),
        (startSum edge offset interval + 19) / 20 * 20 - startSum edge offset interval) := by
  have sum : (edge + BitVec.ofNat 48 (convertedOffset offset interval)).toNat = startSum edge offset interval := by
    have converted : convertedOffset offset interval = (1000000 + 2 * (offset * interval)) / 2000000 := rfl
    rw [BitVec.toNat_add, BitVec.toNat_ofNat, converted]
    unfold startSum at small ⊢
    omega
  generalize startSum edge offset interval = k at small sum
  have up : (k + 19) / 20 * 20 < 2 ^ 48 := by omega
  simp only [startTickOf, Tick.instantAtOrAfter, sum, if_pos up, Tick.elapsed, Prod.mk.injEq, true_and, BitVec.toNat_sub,
    BitVec.toNat_ofNat]
  omega

theorem startSum_small {edge : Tick} {offset interval : Nat} (offsets : offset ≤ 999999) (mean : interval ≤ 1001000)
    (small : 2000000 + edge.toNat < 2 ^ 48) : startSum edge offset interval + 20 < 2 ^ 48 := by
  have product : offset * interval ≤ 999999 * 1001000 := Nat.mul_le_mul offsets mean
  unfold startSum
  omega

/-- The start edge fails: it is a missed edge under LOCKED_ONLY, or not a pulse and its start tick is not later than
the tick at which it is established (R160). -/
def StartWait.edgeFails (w : StartWait) (kind : EdgeKind) (t start : Tick) : Prop :=
  kind = .missed ∧ w.policy = .lockedOnly ∨ kind ≠ .pulse ∧ Tick.before t start = false

/-- What a second edge makes of a wait without a start tick (R160, R161). -/
theorem StartWait.onEdge_judges {w : StartWait} (waiting : w.start = none) {b : Timebase}
    (enough : 1 ≤ b.history.length) (range : ∀ i ∈ b.history, 999000 ≤ i ∧ i ≤ 1001000) (day second : Nat)
    {offset : Nat} (offsets : offset ≤ 999999) {e : EdgeReport} (small : 2000000 + e.edge.toNat < 2 ^ 48) (t : Tick) :
    let v := w.onEdge b (.atTime day second offset) e t
    (b.label = none → v = w) ∧ ∀ l, b.label = some l →
      let lead := leadOver (86400 * day + second) (86400 * l.day + l.second)
      let sum := startSum e.edge offset (meanOf b.history)
      let start := (sum + 19) / 20 * 20
      start - sum ≤ 19 ∧ (0 < lead → v = w) ∧ (lead < 0 → v = { w with lost := some t }) ∧
      (lead = 0 → (w.edgeFails e.kind t (BitVec.ofNat 48 start) → v = { w with lost := some t }) ∧
        (¬ w.edgeFails e.kind t (BitVec.ofNat 48 start) →
          v = { w with start := some (BitVec.ofNat 48 start, start - sum) })) := by
  have mean := (meanOf_range enough range).2
  have ticks := startTickOf_eq (startSum_small offsets mean small)
  rw [← Timebase.interval_eq enough] at ticks
  unfold StartWait.onEdge StartWait.edgeFails secondCount
  simp only [waiting, ← Timebase.interval_eq enough]
  refine ⟨fun unknown => by simp only [unknown], fun l known => ?_⟩
  simp only [known, ticks]
  generalize leadOver (86400 * day + second) (86400 * l.day + l.second) = lead
  refine ⟨by omega, fun ahead => if_pos ahead, fun behind => ?_, fun now => ?_⟩
  · rw [if_neg (by omega), if_pos behind]
  · rw [if_neg (by omega), if_neg (by omega)]
    constructor
    · rintro (missed | ⟨noPulse, late⟩)
      · exact if_pos missed
      · simp [noPulse, late]
    · intro good
      obtain ⟨notMissed, onTime⟩ := not_or.1 good
      rw [if_neg notMissed, if_pos]
      by_contra no
      obtain ⟨noPulse, late⟩ := not_or.1 no
      exact onTime ⟨noPulse, by simpa using late⟩

/-! ## Events in START_WAIT -/

/-- A command after which the wait stands as named. -/
def State.Waits (s : State) (i : Instr) (v : StartWait) : Prop :=
  ∃ u, exec i s = .next u ∧ u.run = { s.run with state := .startWait v }

/-- A command that brings a second edge on which the start second is judged (R160, R161). -/
def State.Judges (s : State) (w : StartWait) (day second offset : Nat) (t : Tick) (i : Instr) (edge : Tick)
    (fails : Tick → Prop) : Prop :=
  ∃ u v, exec i s = .next u ∧ u.run = { s.run with state := .startWait v } ∧ (u.time.label = none → v = w) ∧
    ∀ l, u.time.label = some l →
      let lead := leadOver (86400 * day + second) (86400 * l.day + l.second)
      let sum := edge.toNat + (1000000 + 2 * (offset * meanOf u.time.history)) / 2000000
      let start := (sum + 19) / 20 * 20
      start - sum ≤ 19 ∧ (0 < lead → v = w) ∧ (lead < 0 → v = { w with lost := some t }) ∧
      (lead = 0 → (fails (BitVec.ofNat 48 start) → v = { w with lost := some t }) ∧
        (¬ fails (BitVec.ofNat 48 start) → v = { w with start := some (BitVec.ofNat 48 start, start - sum) }))

/-- A command that puts a Timebase in force and reports it to the wait. -/
def State.Reports (s : State) (w : StartWait) (p : TestPoint) (i : Instr) (n : Timebase) (edge : Option EdgeReport)
    (t : Tick) : Prop :=
  ∃ u, exec i s = .next u ∧ u.time = n ∧ u.run = { s.run with
    state := .startWait (w.hears n (decide (s.time.lock ≠ n.lock)) p.content.start edge t) }

section
variable {s : State} {w : StartWait} {p : TestPoint} {i : Instr} {n : Timebase} {t : Tick}

theorem State.Reports.lost {edge : Option EdgeReport} (r : s.Reports w p i n edge t) (change : s.time.lock ≠ n.lock)
    (lock : lockLost w.policy n.lock = true) : s.Waits i { w with lost := some t } := by
  obtain ⟨u, run, -, hears⟩ := r
  exact ⟨u, run, by rw [hears, StartWait.hears_lost (by simpa using change) lock]⟩

/-- The lock that is reported does not lose the time. -/
def LockKept (s : State) (w : StartWait) (n : Timebase) : Prop :=
  (decide (s.time.lock ≠ n.lock) && lockLost w.policy n.lock) = false

theorem lockKept_of_same (same : n.lock = s.time.lock) : LockKept s w n := by simp [LockKept, same]

theorem lockKept_of_locked (locked : n.lock = .locked) : LockKept s w n := by simp [LockKept, locked, lockLost]

theorem lockKept_of_holdoverOk (holdover : n.lock = .holdover) (policy : w.policy = .holdoverOk) : LockKept s w n := by
  simp [LockKept, holdover, policy, lockLost]

theorem State.Reports.nothing (r : s.Reports w p i n none t) (kept : LockKept s w n) : s.Waits i w := by
  obtain ⟨u, run, -, hears⟩ := r
  exact ⟨u, run, by rw [hears, StartWait.hears_nothing kept]⟩

theorem State.Reports.started {e : EdgeReport} (r : s.Reports w p i n (some e) t) (kept : LockKept s w n)
    (started : w.start ≠ none) : s.Waits i w := by
  obtain ⟨u, run, -, hears⟩ := r
  exact ⟨u, run, by rw [hears, StartWait.hears_edge kept, StartWait.onEdge_started started]⟩

theorem State.Reports.judges {e : EdgeReport} (r : s.Reports w p i n (some e) t) (kept : LockKept s w n)
    (waiting : w.start = none) (enough : 1 ≤ n.history.length)
    (range : ∀ i ∈ n.history, 999000 ≤ i ∧ i ≤ 1001000) {day second offset : Nat}
    (mode : p.content.start = .atTime day second offset) (offsets : offset ≤ 999999)
    (small : 2000000 + e.edge.toNat < 2 ^ 48) {fails : Tick → Prop} (same : ∀ k, w.edgeFails e.kind t k ↔ fails k) :
    s.Judges w day second offset t i e.edge fails := by
  obtain ⟨u, run, time, hears⟩ := r
  obtain ⟨unknown, known⟩ := StartWait.onEdge_judges waiting enough range day second offsets small t
  simp only [same] at known
  refine ⟨u, n.label.elim w fun _ => w.onEdge n (.atTime day second offset) e t, run, ?_, ?_, ?_⟩
  · rw [hears, StartWait.hears_edge kept, mode]
    cases label : n.label with
    | none => rw [unknown label]; rfl
    | some l => rfl
  · intro label
    rw [time] at label
    rw [label]
    rfl
  · intro l label
    rw [time] at label ⊢
    rw [label]
    exact known l label

end

section
variable {s : State} {t r : Tick} {h : Nat} {p : TestPoint} {w : StartWait}

theorem pulse_reports (wait : s.run.state = .startWait w) (going : w.lost = none) (active : s.activePoint = some (h, p))
    (rise : s.riseAhead t) {n : Timebase} (taken : (s.time.readHigh t).takePulse t = .edge n) :
    s.Reports w p (.pulse t) n (some { kind := .pulse, edge := t }) t := by
  refine ⟨_, exec_pulse rise, ?_⟩
  unfold State.pulse
  simp only [taken]
  exact ⟨State.setTimebase_time _ _ _ _ _,
    State.setTimebase_wait (s := { s with tick := t, time := s.time.readHigh t }) wait going active t n _ _⟩

theorem pulse_reports_quietly (wait : s.run.state = .startWait w) (going : w.lost = none)
    (active : s.activePoint = some (h, p)) (rise : s.riseAhead t) {n : Timebase}
    (taken : (s.time.readHigh t).takePulse t = .quiet n) : s.Reports w p (.pulse t) n none t := by
  refine ⟨_, exec_pulse rise, ?_⟩
  unfold State.pulse
  simp only [taken]
  exact ⟨State.setTimebase_time _ _ _ _ _,
    State.setTimebase_wait (s := { s with tick := t, time := s.time.readHigh t }) wait going active t n _ _⟩

/-- An event that puts a Timebase in force at its tick reports it. -/
theorem reports_of_setTimebase (wait : s.run.state = .startWait w) (going : w.lost = none)
    (active : s.activePoint = some (h, p)) {i : Instr} {n : Timebase} {stepped : Bool} {edge : Option EdgeReport}
    (run : exec i s = .next ((s.advanceTo t).setTimebase n stepped edge t)) : s.Reports w p i n edge t := by
  refine ⟨_, run, State.setTimebase_time _ _ _ _ _, ?_⟩
  obtain moved | still := s.advanceTo_eq t
  · rw [moved]
    exact State.setTimebase_wait (s := { s with tick := t }) wait going active t n stepped edge
  · rw [still]
    exact State.setTimebase_wait wait going active t n stepped edge

end

end Sys2Proof.Machine

/-! START_WAIT: start edges, the start tick and lost times (R160, R161). -/

namespace Sys2Proof.Machine

section
variable {s : State} {t r : Tick} {h day second offset : Nat} {p : TestPoint} {w : StartWait}

/-! ## Pulses -/

/-- A pulse in the expected window of a LOCKED or HOLDOVER Timebase leaves it LOCKED (R150, R151). -/
theorem TimeInv.pulse_expected (i : TimeInv s) (lock : s.time.lock = .locked ∨ s.time.lock = .holdover)
    (reference : s.time.reference = some r)
    (inside : meanOf s.time.history ≤ Tick.elapsed r t + s.time.window ∧
      Tick.elapsed r t ≤ meanOf s.time.history + s.time.window) :
    ∃ n, (s.time.readHigh t).takePulse t = .edge n ∧ TimeInv { s with time := n } ∧ n.lock = .locked := by
  rcases lock with locked | holdover
  · exact ⟨_, (i.pulse_locked locked reference).1 inside, (i.readHigh t).pulseAccepted locked r t,
      by rw [Timebase.pulseAccepted, Timebase.secondEdge_eq]; exact locked⟩
  · exact ⟨_, (i.pulse_holdover holdover reference).1 inside, (i.readHigh t).pulseRegained holdover t, rfl⟩

theorem pulse_in_wait (i : TimeInv s) (wait : s.run.state = .startWait w) (going : w.lost = none)
    (active : s.activePoint = some (h, p)) (mode : p.content.start = .atTime day second offset)
    (offsets : offset ≤ 999999) (reference : s.time.reference = some r) (rise : s.riseAhead t)
    (small : 2000000 + t.toNat < 2 ^ 48) :
    let inside := meanOf s.time.history ≤ Tick.elapsed r t + s.time.window ∧
      Tick.elapsed r t ≤ meanOf s.time.history + s.time.window
    let after := s.time.referenceKind = .predicted ∧ s.time.referenceClosed = false ∧ Tick.elapsed r t ≤ s.time.window
    ((s.time.lock = .locked ∨ s.time.lock = .holdover) → inside → w.start = none →
      s.Judges w day second offset t (.pulse t) t fun _ => False) ∧
    ((s.time.lock = .locked ∨ s.time.lock = .holdover) → inside → w.start ≠ none → s.Waits (.pulse t) w) ∧
    (s.time.lock = .locked → ¬ inside → s.Waits (.pulse t) w) ∧
    (s.time.lock = .holdover → ¬ inside → after → s.Waits (.pulse t) w) ∧
    (s.time.lock = .holdover → ¬ inside → ¬ after → s.Waits (.pulse t) { w with lost := some t }) := by
  refine ⟨fun lock inside waiting => ?_, fun lock inside started => ?_, fun lock outside => ?_,
    fun lock outside predicted => ?_, fun lock outside other => ?_⟩
  · obtain ⟨n, taken, inv, locked⟩ := i.pulse_expected lock reference inside
    have enough : 3 ≤ n.history.length := (inv.locked locked).2.1
    exact (pulse_reports wait going active rise taken).judges (lockKept_of_locked locked) waiting (by omega)
      inv.intervals mode offsets small fun k => by simp [StartWait.edgeFails]
  · obtain ⟨n, taken, -, locked⟩ := i.pulse_expected lock reference inside
    exact (pulse_reports wait going active rise taken).started (lockKept_of_locked locked) started
  · exact (pulse_reports_quietly wait going active rise ((i.pulse_locked lock reference).2 outside)).nothing
      (lockKept_of_same rfl)
  · exact (pulse_reports_quietly wait going active rise ((i.pulse_holdover lock reference).2.1 outside predicted)).nothing
      (lockKept_of_locked rfl)
  · refine (pulse_reports wait going active rise ((i.pulse_holdover lock reference).2.2 outside other)).lost ?_ rfl
    simp [lock, Timebase.pulseRestart]

/-! ## Missed and predicted edges -/

theorem Timebase.missEdge_history (b : Timebase) (edge t : Tick) : (b.missEdge edge t).history = b.history := by
  rw [Timebase.missEdge, Timebase.secondEdge_eq]
  dsimp only
  split <;> rfl

theorem missedEdge_in_wait (i : TimeInv s) (wait : s.run.state = .startWait w) (going : w.lost = none)
    (active : s.activePoint = some (h, p)) (mode : p.content.start = .atTime day second offset)
    (offsets : offset ≤ 999999) (reference : s.time.reference = some r) :
    let edge := r + BitVec.ofNat 48 (meanOf s.time.history)
    s.time.lock = .locked → Tick.reached (edge + BitVec.ofNat 48 (s.time.window + 1)) t = true →
    2000000 + edge.toNat < 2 ^ 48 →
    (s.time.missed + 1 = s.time.missedLimit → w.policy = .lockedOnly →
      s.Waits (.missedEdge t) { w with lost := some t }) ∧
    ((s.time.missed + 1 < s.time.missedLimit ∨ w.policy = .holdoverOk) →
      (w.start ≠ none → s.Waits (.missedEdge t) w) ∧
      (w.start = none → s.Judges w day second offset t (.missedEdge t) edge fun start =>
        w.policy = .lockedOnly ∨ Tick.before t start = false)) := by
  intro edge lock closed small
  have reports := reports_of_setTimebase wait going active (exec_missedEdge (i.missedAt lock reference closed))
  obtain ⟨-, enough, below⟩ := i.locked lock
  refine ⟨fun limit policy => ?_, fun allowed => ?_⟩
  · rw [Timebase.missEdge_at _ _ limit] at reports
    exact reports.lost (by simp [lock]) (by simp [policy, lockLost])
  · have kept : LockKept s w (s.time.missEdge edge t) := by
      by_cases more : s.time.missed + 1 < s.time.missedLimit
      · rw [Timebase.missEdge_below _ _ more]
        exact lockKept_of_same rfl
      · rw [Timebase.missEdge_at _ _ (by omega)]
        exact lockKept_of_holdoverOk rfl (allowed.resolve_left more)
    refine ⟨fun started => reports.started kept started, fun waiting => ?_⟩
    refine reports.judges kept waiting ?_ ?_ mode offsets small fun k => by simp [StartWait.edgeFails]
    · rw [Timebase.missEdge_history]
      omega
    · rw [Timebase.missEdge_history]
      exact i.intervals

theorem predictedEdge_in_wait (i : TimeInv s) (wait : s.run.state = .startWait w) (going : w.lost = none)
    (active : s.activePoint = some (h, p)) (mode : p.content.start = .atTime day second offset)
    (offsets : offset ≤ 999999) (reference : s.time.reference = some r) :
    let edge := r + BitVec.ofNat 48 (meanOf s.time.history)
    s.time.lock = .holdover → Tick.reached edge t = true → 2000000 + edge.toNat < 2 ^ 48 →
    (w.start ≠ none → s.Waits (.predictedEdge t) w) ∧
    (w.start = none → s.Judges w day second offset t (.predictedEdge t) edge fun start => Tick.before t start = false) := by
  intro edge lock due small
  have reports := reports_of_setTimebase wait going active (exec_predictedEdge (i.predictedAt lock reference due))
  have kept : LockKept s w (s.time.atEdge .predicted edge false) := lockKept_of_same rfl
  have enough : 1 ≤ s.time.history.length := by
    have := (i.holdover lock).2.1
    omega
  exact ⟨fun started => reports.started kept started, fun waiting =>
    reports.judges kept waiting enough i.intervals mode offsets small fun k => by simp [StartWait.edgeFails]⟩

/-! ## Limits -/

theorem timeSet_in_wait (wait : s.run.state = .startWait w) (going : w.lost = none)
    (active : s.activePoint = some (h, p)) (now : t = s.tick) {window missed limit : Nat}
    (good : timeSetInRange window missed limit = true) :
    let elapsed := ∃ entry, s.time.holdoverEntry = some entry ∧
      Tick.reached (entry + BitVec.ofNat 48 (1000000 * limit)) t = true
    let i := Instr.timeSet window missed limit
    (s.time.lock = .locked → missed ≤ s.time.missed →
      (w.policy = .lockedOnly → s.Waits i { w with lost := some t }) ∧ (w.policy = .holdoverOk → s.Waits i w)) ∧
    (s.time.lock = .holdover → elapsed → s.Waits i { w with lost := some t }) ∧
    ((s.time.lock = .locked → s.time.missed < missed) → (s.time.lock = .holdover → ¬ elapsed) → s.Waits i w) := by
  subst now
  intro elapsed i
  let b := s.time.configure window missed limit s.tick
  have reports : s.Reports w p i (b.judgeLimits s.tick) none s.tick :=
    ⟨_, exec_timeSet s good, State.setTimebase_time _ _ _ _ _, State.setTimebase_wait wait going active _ _ _ _⟩
  refine ⟨fun lock due => ?_, fun lock due => ?_, fun notMissed notElapsed => ?_⟩
  · rw [Timebase.judgeLimits_locked (b := b) lock due] at reports
    exact ⟨fun policy => reports.lost (by simp [lock]) (by simp [policy, lockLost]),
      fun policy => reports.nothing (lockKept_of_holdoverOk rfl policy)⟩
  · rw [Timebase.judgeLimits_holdover (b := b) lock ((Timebase.holdoverElapsed_iff _ _).2 due)] at reports
    exact reports.lost (by simp [lock, Timebase.loseHoldover, Timebase.toFree]) rfl
  · rw [Timebase.judgeLimits_within (b := b) notMissed fun lock =>
      Bool.eq_false_iff.2 fun due => notElapsed lock ((Timebase.holdoverElapsed_iff _ _).1 due)] at reports
    exact reports.nothing (lockKept_of_same rfl)

end

/-- Settles O49: each event of the Timebase is reported to the wait, which judges its lock and its second edge. -/
theorem startEdgeGivesTheStartTick : Obligations.StartEdgeGivesTheStartTick := by
  refine fun s t h day second offset p w i ahead wait going active mode offsets =>
    ⟨fun r reference => ⟨fun rise small => pulse_in_wait i wait going active mode offsets reference rise small,
      missedEdge_in_wait i wait going active mode offsets reference,
      predictedEdge_in_wait i wait going active mode offsets reference⟩, fun entry lock held due => ?_,
      fun now window missed limit low high missedLimit holdoverLow holdoverHigh => ?_⟩
  · refine (reports_of_setTimebase wait going active (exec_holdoverLimitElapses ahead lock held due)).lost ?_ rfl
    simp [lock, Timebase.loseHoldover, Timebase.toFree]
  · exact timeSet_in_wait wait going active now
      ((timeSetInRange_iff _ _ _).2 ⟨low, high, missedLimit, holdoverLow, holdoverHigh⟩)

end Sys2Proof.Machine

/-! Time messages: what the receiver makes of the characters between two flags (R154, R155). -/

namespace Sys2Proof.Machine

/-! ## The receiver -/

section
variable {b : Timebase}

/-- A flag while nothing has been gathered begins a message and ends none. -/
theorem Timebase.receive_opening (b : Timebase) (rest : List Byte) : b.receive Assembly.empty (flagByte :: rest) =
    Timebase.receive { b with receiver := .message } Assembly.empty rest := by
  rw [Timebase.receive, if_pos rfl]
  split <;> rfl

/-- The closing flag ends the message in progress. -/
theorem Timebase.receive_closing (message : b.receiver = .message) (a : Assembly) : b.receive a [flagByte] =
    { (if a.escaped then b.discard else b.endMessage a.content.reverse) with receiver := .message } := by
  rw [Timebase.receive, if_pos rfl, if_pos message]
  rfl

/-- A plain character joins the content. -/
theorem Timebase.receive_plain (message : b.receiver = .message) {a : Assembly} (room : a.characters < 24)
    (open_ : a.escaped = false) {c : Byte} (flag : c ≠ flagByte) (escape : c ≠ escapeByte) (rest : List Byte) :
    b.receive a (c :: rest) =
      b.receive { a with content := c :: a.content, characters := a.characters + 1 } rest := by
  rw [Timebase.receive, if_neg flag, if_neg (by simp [message]), if_neg (by omega), if_neg (by simp [open_]),
    if_neg escape]

/-- The escape byte opens an escape. -/
theorem Timebase.receive_escape (message : b.receiver = .message) {a : Assembly} (room : a.characters < 24)
    (open_ : a.escaped = false) (rest : List Byte) : b.receive a (escapeByte :: rest) =
      b.receive { a with characters := a.characters + 1, escaped := true } rest := by
  rw [Timebase.receive, if_neg (by decide), if_neg (by simp [message]), if_neg (by omega), if_neg (by simp [open_]),
    if_pos rfl]

/-- The character after the escape byte joins the content inverted in bit 5. -/
theorem Timebase.receive_escaped (message : b.receiver = .message) {a : Assembly} (room : a.characters < 24)
    (escaped : a.escaped = true) {c : Byte} (flag : c ≠ flagByte) (rest : List Byte) : b.receive a (c :: rest) =
      b.receive { content := (c ^^^ 0x20) :: a.content, characters := a.characters + 1, escaped := false } rest := by
  rw [Timebase.receive, if_neg flag, if_neg (by simp [message]), if_neg (by omega), if_pos escaped]

theorem escaped_cons (c : Byte) (content : List Byte) : escaped (c :: content) =
    (if c = 0x7E ∨ c = 0x7D then [0x7D, c ^^^ 0x20] else [c]) ++ escaped content := List.flatMap_cons

/-- A content sent escaped is gathered whole, where its characters fit. -/
theorem Timebase.receive_content (message : b.receiver = .message) (content rest : List Byte) :
    ∀ {gathered : List Byte} {n : Nat}, n + (escaped content).length ≤ 24 →
      b.receive { content := gathered, characters := n, escaped := false } (escaped content ++ rest) =
        b.receive { content := content.reverse ++ gathered, characters := n + (escaped content).length, escaped := false }
          rest := by
  induction content with
  | nil => exact fun _ => rfl
  | cons c content ih =>
    intro gathered n room
    by_cases special : c = 0x7E ∨ c = 0x7D
    · have sent : escaped (c :: content) = escapeByte :: (c ^^^ 0x20) :: escaped content := by
        rw [escaped_cons, if_pos special]
        rfl
      have plain : c ^^^ 0x20 ≠ flagByte ∧ c ^^^ 0x20 ^^^ 0x20 = c := by
        rcases special with rfl | rfl <;> decide
      rw [sent, List.length_cons, List.length_cons] at room
      rw [sent, List.cons_append, List.cons_append, Timebase.receive_escape message (by show n < 24; omega) rfl,
        Timebase.receive_escaped message (by show n + 1 < 24; omega) rfl plain.1, plain.2,
        ih (n := n + 2) (by omega)]
      simp only [List.length_cons, List.reverse_cons, List.append_assoc, List.singleton_append]
      congr 2
      omega
    · obtain ⟨flag, escape⟩ := not_or.1 special
      have sent : escaped (c :: content) = c :: escaped content := by
        rw [escaped_cons, if_neg special]
        rfl
      rw [sent, List.length_cons] at room
      rw [sent, List.cons_append, Timebase.receive_plain message (by show n < 24; omega) rfl flag escape,
        ih (n := n + 1) (by omega)]
      simp only [List.length_cons, List.reverse_cons, List.append_assoc, List.singleton_append]
      congr 2
      omega

/-- Characters that are not flags are ignored after a discarded message, up to the closing flag. -/
theorem Timebase.receive_ignored (ignoring : b.receiver ≠ .message) {cs : List Byte} (plain : ∀ c ∈ cs, c ≠ flagByte)
    (a : Assembly) : b.receive a (cs ++ [flagByte]) = { b with receiver := .message } := by
  induction cs with
  | nil => rw [List.nil_append, Timebase.receive, if_pos rfl, if_neg ignoring]; rfl
  | cons c cs ih =>
    obtain ⟨head, tail⟩ := List.forall_mem_cons.1 plain
    rw [List.cons_append, Timebase.receive, if_neg head, if_pos ignoring, ih tail]

/-- The 25th character discards the message. -/
theorem Timebase.receive_overlong (message : b.receiver = .message) {cs : List Byte} (plain : ∀ c ∈ cs, c ≠ flagByte) :
    ∀ {a : Assembly}, a.characters ≤ 24 → 25 ≤ a.characters + cs.length →
      b.receive a (cs ++ [flagByte]) = { b.discard with receiver := .message } := by
  induction cs with
  | nil =>
    intro a most long
    rw [List.length_nil] at long
    omega
  | cons c cs ih =>
    intro a most long
    obtain ⟨head, tail⟩ := List.forall_mem_cons.1 plain
    rw [List.length_cons] at long
    rw [List.cons_append, Timebase.receive, if_neg head, if_neg (by simp [message])]
    split
    · exact Timebase.receive_ignored (b := { b.discard with receiver := .ignoring }) (fun h => nomatch h) tail _
    · split
      · exact ih tail (by simp only; omega) (by simp only; omega)
      · split
        · exact ih tail (by simp only; omega) (by simp only; omega)
        · exact ih tail (by simp only; omega) (by simp only; omega)

end

/-! ## Messages -/

theorem escaped_length_le (content : List Byte) : (escaped content).length ≤ 2 * content.length := by
  induction content with
  | nil => exact Nat.le_refl 0
  | cons c content ih =>
    have head : (if c = 0x7E ∨ c = 0x7D then [0x7D, c ^^^ 0x20] else [c]).length ≤ 2 := by split <;> simp
    rw [escaped_cons, List.length_append, List.length_cons]
    omega

/-- The content of a message names its label, with a good check (R155). -/
theorem labelOf_message {l : Label} (day : l.day < 65536) (second : l.second ≤ 86399) (quality : l.quality < 256) :
    labelOf l.message = some l := by
  have length : l.message.length = 8 := by simp [Label.message]
  have named : l.message.take 6 = bytesOf 2 l.day ++ bytesOf 3 l.second ++ bytesOf 1 l.quality :=
    List.take_left' (by simp)
  have check : fieldAt l.message 6 2 = (crcOf (l.message.take 6)).toNat := by
    rw [named, Label.message, fieldAt_append_right _ _ (by simp)]
    simp only [List.length_append, bytesOf_length, Nat.reduceAdd, Nat.sub_self, fieldAt_single]
    exact Nat.mod_eq_of_lt (BitVec.isLt _)
  have fields : fieldAt l.message 0 2 = l.day ∧ fieldAt l.message 2 3 = l.second ∧ fieldAt l.message 5 1 = l.quality := by
    simp only [Label.message, List.append_assoc, fieldAt_append_right, fieldAt_front, bytesOf_length, Nat.reduceLeDiff,
      Nat.reduceSub, Nat.reducePow, Nat.le_refl, Nat.sub_self]
    omega
  obtain ⟨d, s, q⟩ := fields
  simp only [labelOf, length, check, d, s, q, second, and_self, if_true]

theorem labelOf_eq_none {content : List Byte} (bad : content.length ≠ 8 ∨
    valueOf (content.drop 6) ≠ (crcOf (content.take 6)).toNat ∨ 86399 < valueOf ((content.drop 2).take 3)) :
    labelOf content = none := by
  refine if_neg ?_
  rintro ⟨length, check, second⟩
  rcases bad with wrong | wrong | wrong
  · exact wrong length
  · refine wrong (Eq.symm ?_)
    have rest : (content.drop 6).take 2 = content.drop 6 :=
      List.take_of_length_le (by rw [List.length_drop, length])
    rwa [fieldAt, rest] at check
  · exact absurd second (Nat.not_le.2 wrong)

section
variable {s : State} {t : Tick}

theorem exec_timeMessage (ahead : Tick.reached s.tick t = true) (cs : List Byte) : exec (.timeMessage t cs) s = .next
    { s with tick := t
             time := Timebase.receive { s.time with receiver := .message } Assembly.empty (cs ++ [flagByte]) } := by
  refine congrArg Host.Outcome.next ?_
  rw [State.advanceTo_of_reached ahead]
  simp only [Timebase.receive_opening]

/-- A content that fits is checked at the closing flag. -/
theorem exec_timeMessage_content (ahead : Tick.reached s.tick t = true) {content : List Byte}
    (room : (escaped content).length ≤ 24) : exec (.timeMessage t (escaped content)) s = .next
      { s with tick := t
               time := { Timebase.endMessage { s.time with receiver := .message } content with receiver := .message } } := by
  rw [exec_timeMessage ahead]
  have gathered := Timebase.receive_content (b := { s.time with receiver := .message }) rfl content [flagByte]
    (gathered := []) (n := 0) (by omega)
  have closed := Timebase.receive_closing (b := { s.time with receiver := .message }) rfl
    { content := content.reverse ++ [], characters := 0 + (escaped content).length, escaped := false }
  rw [Assembly.empty, gathered, closed, List.append_nil, List.reverse_reverse]
  rfl

end

theorem messages_refused {s : State} {t : Tick} (ahead : Tick.reached s.tick t = true) :
    let becomes := fun (i : Instr) (n : Timebase) => exec i s = .next { s with tick := t, time := n }
    (s.time.receiver = .message →
      becomes (.framingError t) { s.time.discard with receiver := .ignoring } ∧
      becomes (.overlongMessage t) { s.time.discard with receiver := .ignoring }) ∧
    (s.time.receiver ≠ .message → becomes (.framingError t) s.time ∧ becomes (.overlongMessage t) s.time) := by
  have framing : exec (.framingError t) s = .next { s with tick := t, time := s.time.abandonMessage } :=
    congrArg Host.Outcome.next (by rw [State.advanceTo_of_reached ahead])
  have overlong : exec (.overlongMessage t) s = .next { s with tick := t, time := s.time.abandonMessage } :=
    congrArg Host.Outcome.next (by rw [State.advanceTo_of_reached ahead])
  simp only [framing, overlong, Timebase.abandonMessage]
  exact ⟨fun message => by rw [if_pos message]; exact ⟨rfl, rfl⟩, fun none => by rw [if_neg none]; exact ⟨rfl, rfl⟩⟩

/-- Settles O50: the receiver gathers what stands between two flags and judges it at the second. -/
theorem timeMessagesAreHeldOrCounted : Obligations.TimeMessagesAreHeldOrCounted := by
  refine fun s t ahead => ⟨fun l day second quality => ?_, ?_, fun content some fits bad => ?_, fun content fits => ?_,
    fun cs long plain => ?_, ?_⟩
  · have room : (escaped l.message).length ≤ 24 := by
      have := escaped_length_le l.message
      have length : l.message.length = 8 := by simp [Label.message]
      omega
    have present : l.message ≠ [] := by simp [Label.message, bytesOf]
    refine (exec_timeMessage_content ahead room).trans ?_
    simp only [Timebase.endMessage, if_neg present, labelOf_message day second quality]
    cases s.time.held <;> rfl
  · exact exec_timeMessage_content ahead (content := []) (Nat.zero_le _)
  · have room := escaped_length_le content
    have present : content ≠ [] := List.length_pos_iff.1 some
    refine (exec_timeMessage_content ahead (by omega)).trans ?_
    simp only [Timebase.endMessage, if_neg present, labelOf_eq_none bad]
    rfl
  · have room := escaped_length_le content
    refine (exec_timeMessage ahead _).trans ?_
    rw [List.append_assoc]
    have gathered := Timebase.receive_content (b := { s.time with receiver := .message }) rfl content
      ([escapeByte] ++ [flagByte]) (gathered := []) (n := 0) (by omega)
    rw [Assembly.empty]
    refine congrArg (fun n => Host.Outcome.next { s with tick := t, time := n }) (gathered.trans ?_)
    rw [List.singleton_append, Timebase.receive_escape rfl (by simp only; omega) rfl, Timebase.receive_closing rfl]
    rfl
  · refine (exec_timeMessage ahead _).trans ?_
    rw [Timebase.receive_overlong rfl plain (Nat.zero_le _) (by simpa [Assembly.empty] using long)]
    rfl
  · obtain ⟨discarded, ignored⟩ := messages_refused ahead
    simp only [List.forall_mem_cons, List.not_mem_nil, false_implies, implies_true, and_true]
    exact ⟨⟨fun message => (discarded message).1, fun none => (ignored none).1⟩,
      fun message => (discarded message).2, fun none => (ignored none).2⟩

end Sys2Proof.Machine

/-! Claims without a step: expectations, the search procedure, samples, runs of samples; and the fault lines. -/

namespace Sys2Proof.Machine

/-! ## The expectation at inception -/

/-- No expected time is formed exactly below the first breakpoint (R29). -/
theorem expectedTime_eq_none_iff {multiple : Nat} : ∀ {bs : List (Nat × Nat)} {first : Nat × Nat},
    bs.head? = some first → (expectedTime bs multiple = none ↔ multiple < first.1)
  | [], _, head => nomatch head
  | [_], _, head => by
    cases head
    simp [expectedTime]
  | a :: b :: rest, _, head => by
    cases head
    have tail := expectedTime_eq_none_iff (multiple := multiple) (bs := b :: rest) rfl
    rw [expectedTime]
    by_cases below : multiple < a.1
    · simp [below]
    · rw [if_neg below]
      by_cases second : multiple < b.1
      · simp [second, below]
      · rw [if_neg second, tail]
        omega

section
variable (k : Characteristic) (fault : StateContent) (percent absolute : Nat)

theorem curveWorking_multiple : (curveWorking k fault percent absolute).multiple? =
    some (multipleOf (quantityValue k.content.quantity fault) k.content.pickup) := by
  unfold curveWorking
  dsimp only
  split <;> rfl

theorem curveWorking_revision_eq : (curveWorking k fault percent absolute).revision? = some k.revision := by
  unfold curveWorking
  dsimp only
  split <;> rfl

theorem curveWorking_expected : (curveWorking k fault percent absolute).expected? =
    (expectedTime k.content.breakpoints
      (multipleOf (quantityValue k.content.quantity fault) k.content.pickup)).map fun t =>
        bandAround t percent absolute := by
  unfold curveWorking
  dsimp only
  split
  · rename_i none
    rw [none]
    rfl
  · rename_i t some
    rw [some]
    rfl

end

/-- PHASE_MAX reads the largest phase current, the other quantities one current (R27). -/
theorem quantityValue_spec (q : Quantity) (fault : StateContent) :
    let amps := quantityValue q fault
    let i1 := fault.settings.i1.amplitude
    let i2 := fault.settings.i2.amplitude
    let i3 := fault.settings.i3.amplitude
    (q = .i1 → amps = i1) ∧ (q = .i2 → amps = i2) ∧ (q = .i3 → amps = i3) ∧
      (q = .ix → amps = fault.settings.ix.amplitude) ∧
      (q = .phaseMax → (i1 ≤ amps ∧ i2 ≤ amps ∧ i3 ≤ amps) ∧ (amps = i1 ∨ amps = i2 ∨ amps = i3)) := by
  refine ⟨?_, ?_, ?_, ?_, ?_⟩ <;> rintro rfl
  case refine_5 =>
    simp only [quantityValue]
    omega
  all_goals rfl

/-- Settles O53: each expectation forms its working values, a curve from one reading of its characteristic. -/
theorem inceptionFormsTheExpectation : Obligations.InceptionFormsTheExpectation := by
  refine fun s c fault => ⟨fun k kind => ?_, fun p a kind => ?_, fun p a kind => ?_, fun t p a kind => ?_,
    fun h p a raw k kind present checked => ?_⟩
  case refine_5 =>
    obtain ⟨i1, i2, i3, ix, phaseMax⟩ := quantityValue_spec k.content.quantity fault
    refine ⟨quantityValue k.content.quantity fault, curveWorking k fault p a, ?_, curveWorking_multiple _ _ _ _,
      curveWorking_revision_eq _ _ _ _, i1, i2, i3, ix, phaseMax, fun m t head => ?_, fun e formed => ?_⟩
    · simp only [State.formWorking, kind, present, Option.map_some]
    · rw [curveWorking_expected, Option.map_eq_none_iff]
      exact expectedTime_eq_none_iff head
    · rw [curveWorking_expected, Option.map_eq_some_iff] at formed
      obtain ⟨t, -, rfl⟩ := formed
      exact ⟨rfl, rfl⟩
  all_goals simp only [State.formWorking, kind, bandAround, halfWidth]

/-! ## Searches -/

theorem boundaryVerdict_eq (p : SearchParams) (boundary : Nat) : boundaryVerdict p boundary =
    let hw := max p.toleranceAbsolute (p.boundary * p.tolerancePercent / 1000)
    if boundary < p.boundary - hw then .failLow else if p.boundary + hw < boundary then .failHigh else .pass := by
  unfold boundaryVerdict halfWidth
  dsimp only
  split
  · rw [if_neg (by omega)]
  · rfl

/-- Convergence is tested before the shots run out (R137). -/
theorem testConvergence_spec (p : SearchParams) (d : SearchContext) :
    (d.upper - d.lower ≤ p.resolution →
      testConvergence p d = .finish (boundaryVerdict p d.upper) d (some d.upper)) ∧
    (p.resolution < d.upper - d.lower → d.shotsUsed = p.maximumShots →
      testConvergence p d = .finish .notConverged d (some d.upper)) ∧
    (p.resolution < d.upper - d.lower → d.shotsUsed ≠ p.maximumShots → testConvergence p d = .goOn d) := by
  unfold testConvergence
  refine ⟨fun converged => if_pos converged, fun wide out => ?_, fun wide shots => ?_⟩
  · rw [if_neg (Nat.not_le.2 wide), if_pos out]
  · rw [if_neg (Nat.not_le.2 wide), if_neg shots]

section
variable (p : SearchParams) {c : SearchContext}

theorem searchStep_doubt (c : SearchContext) (tripped : Bool) : searchStep p c tripped true =
    .finish .inconclusive { c with shotsUsed := c.shotsUsed + 1 } (some c.upper) := rfl

theorem searchStep_bracketHigh (phase : c.phase = .bracketHigh) (tripped : Bool) : searchStep p c tripped false =
    if tripped then .goOn { c with shotsUsed := c.shotsUsed + 1, phase := .bracketLow }
    else .finish .noBracket { c with shotsUsed := c.shotsUsed + 1 } none := by
  unfold searchStep
  rw [phase]
  cases tripped <;> rfl

theorem searchStep_bracketLow (phase : c.phase = .bracketLow) (tripped : Bool) : searchStep p c tripped false =
    if tripped then .finish .noBracket { c with shotsUsed := c.shotsUsed + 1 } none
    else testConvergence p { c with shotsUsed := c.shotsUsed + 1, phase := .bisect } := by
  unfold searchStep
  rw [phase]
  cases tripped <;> rfl

theorem trialOf_bisect (phase : c.phase = .bisect) : trialOf c = c.lower + (c.upper - c.lower) / 2 := by
  simp only [trialOf, phase]

theorem searchStep_bisect (phase : c.phase = .bisect) (tripped : Bool) : searchStep p c tripped false =
    if tripped then testConvergence p
      { c with shotsUsed := c.shotsUsed + 1, upper := c.lower + (c.upper - c.lower) / 2 }
    else testConvergence p { c with shotsUsed := c.shotsUsed + 1, lower := c.lower + (c.upper - c.lower) / 2 } := by
  rw [← trialOf_bisect phase]
  unfold searchStep
  rw [phase]
  cases tripped <;> rfl

end

/-- The fault state of a search shot plays the trial on the varied channels (R80). -/
theorem TestPoint.playedContent_fault {p : TestPoint} {k : SearchParams} {c : SearchContext}
    (kind : p.content.kind = .search k) (context : p.context = some c) (content : StateContent) :
    p.playedContent p.content.faultPosition content = content.withTrial k.varied (trialOf c) := by
  simp only [TestPoint.playedContent, kind, context, if_true, Option.getD_some]

theorem TestPoint.playedContent_other {p : TestPoint} {k : SearchParams} {position : Nat}
    (kind : p.content.kind = .search k) (other : position ≠ p.content.faultPosition) (content : StateContent) :
    p.playedContent position content = content := by
  simp only [TestPoint.playedContent, kind, if_neg other]

/-- Settles O43: the phase of the context gives the trial, and with the findings the next context or the end. -/
theorem searchTrialsAndProcedure : Obligations.SearchTrialsAndProcedure := by
  refine ⟨fun p k c content position kind context => ⟨fun other => TestPoint.playedContent_other kind other content,
    fun fault => ?_⟩, fun p c => ⟨fun tripped => searchStep_doubt p c tripped, fun phase => ?_, fun phase => ?_,
    fun phase => ?_⟩⟩
  · subst fault
    rw [TestPoint.playedContent_fault kind context]
    refine ⟨trialOf c, fun phase => ?_, fun phase => ?_, fun phase => ⟨trialOf_bisect phase, fun wide => ?_⟩, rfl,
      fun ch => ?_⟩
    · simp only [trialOf, phase]
    · simp only [trialOf, phase]
    · rw [trialOf_bisect phase]
      omega
    · simp only [StateContent.withTrial, PerChannel.get_of]
      rfl
  · exact ⟨searchStep_bracketHigh p phase true, searchStep_bracketHigh p phase false⟩
  · have tested := testConvergence_spec p { c with shotsUsed := c.shotsUsed + 1, phase := .bisect }
    rw [boundaryVerdict_eq] at tested
    refine ⟨searchStep_bracketLow p phase true, ?_⟩
    rw [searchStep_bracketLow p phase false]
    exact tested
  · rw [searchStep_bisect p phase true, searchStep_bisect p phase false]
    constructor
    · have tested := testConvergence_spec p
        { c with shotsUsed := c.shotsUsed + 1, upper := c.lower + (c.upper - c.lower) / 2 }
      rw [boundaryVerdict_eq] at tested
      exact tested
    · have tested := testConvergence_spec p
        { c with shotsUsed := c.shotsUsed + 1, lower := c.lower + (c.upper - c.lower) / 2 }
      rw [boundaryVerdict_eq] at tested
      exact tested

end Sys2Proof.Machine

/-! Waveform samples, runs of samples and windows, and the amplifier fault lines. -/

namespace Sys2Proof.Machine

/-! ## Samples -/

theorem sineRows_le : ∀ row ∈ sineRows, ∀ x ∈ row, x ≤ 65536 := by decide

theorem sineQuarter_le (j : Nat) : sineQuarter j ≤ 65536 := by
  have entry_le : ∀ {row : List Nat}, (∀ x ∈ row, x ≤ 65536) → ∀ k, row.getD k 0 ≤ 65536 := by
    intro row small k
    rw [List.getD_eq_getElem?_getD]
    cases entry : row[k]? with
    | none => exact Nat.zero_le _
    | some x => exact small x (List.mem_of_getElem? entry)
  refine entry_le ?_ _
  rw [List.getD_eq_getElem?_getD]
  cases row : sineRows[j / 64]? with
  | none => exact fun x hx => nomatch hx
  | some row' => exact sineRows_le row' (List.mem_of_getElem? row)

theorem sineHalf_le (j : Nat) : sineHalf j ≤ 65536 := by
  unfold sineHalf
  split <;> exact sineQuarter_le _

theorem sine_natAbs_le (j : Nat) : (sine j).natAbs ≤ 65536 := by
  unfold sine
  split
  · rw [Int.natAbs_natCast]
    exact sineHalf_le j
  · rw [Int.natAbs_neg, Int.natAbs_natCast]
    exact sineHalf_le _

/-- The second half wave is the first one inverted (R70). -/
theorem sine_halfTurn {j : Nat} (range : j < 4096) : sine ((j + 2048) % 4096) = -sine j := by
  unfold sine
  by_cases first : j < 2048
  · rw [Nat.mod_eq_of_lt (by omega), if_neg (by omega), if_pos first, Nat.add_sub_cancel]
  · have wrapped : (j + 2048) % 4096 = j - 2048 := by omega
    rw [wrapped, if_pos (by omega), if_neg first, Int.neg_neg]

theorem toNat_halfTurn (angle : Phase) : (angle + 0x80000000).toNat = (angle.toNat + 2147483648) % 4294967296 :=
  BitVec.toNat_add angle 0x80000000#32

/-- The index into the sine table at an angle, half a turn on (R70). -/
theorem sine_index_halfTurn (angle : Phase) :
    ((angle + 0x80000000) >>> 20).toNat = ((angle >>> 20).toNat + 2048) % 4096 := by
  rw [BitVec.toNat_ushiftRight, BitVec.toNat_ushiftRight, toNat_halfTurn, Nat.shiftRight_eq_div_pow,
    Nat.shiftRight_eq_div_pow]
  have := angle.isLt
  omega

theorem sine_angle_halfTurn (angle : Phase) :
    sine ((angle + 0x80000000) >>> 20).toNat = -sine (angle >>> 20).toNat := by
  rw [sine_index_halfTurn]
  refine sine_halfTurn ?_
  have := angle.isLt
  rw [BitVec.toNat_ushiftRight, Nat.shiftRight_eq_div_pow]
  omega

/-- The magnitude of a sample does not exceed the peak code (R70). -/
theorem magnitude_le (peak : Nat) {entry : Nat} (small : entry ≤ 65536) : roundHalfUp (peak * entry) 65536 ≤ peak := by
  have product : peak * entry ≤ peak * 65536 := Nat.mul_le_mul_left peak small
  unfold roundHalfUp
  omega

theorem sampleAt_halfTurn (peak : Nat) (angle : Phase) :
    sampleAt peak (angle + 0x80000000) = -sampleAt peak angle := by
  simp only [sampleAt, sine_angle_halfTurn, Int.natAbs_neg]
  generalize sine (angle >>> 20).toNat = entry
  rcases Int.lt_trichotomy entry 0 with negative | zero | positive
  · rw [if_neg (by omega), if_pos negative, Int.neg_neg]
  · simp [zero, roundHalfUp_zero]
  · rw [if_pos (by omega), if_neg (by omega)]

theorem sampleAt_natAbs_le (peak : Nat) (angle : Phase) : (sampleAt peak angle).natAbs ≤ peak := by
  have small := magnitude_le peak (sine_natAbs_le (angle >>> 20).toNat)
  simp only [sampleAt]
  split
  · rwa [Int.natAbs_neg]
  · exact small

/-- A target ahead is swept on the step that reaches its distance; a target met already counts as a turn ahead (R77). -/
theorem exists_onArc (accumulator step target : Phase) (turning : 0 < step.toNat) :
    ∃ n : Nat, n * step.toNat < 2 ^ 32 ∧
      onArc (accumulator + step * BitVec.ofNat 32 n) (accumulator + step * BitVec.ofNat 32 (n + 1)) target = true := by
  let far := if target = accumulator then 2 ^ 32 else (target - accumulator).toNat
  have reached : 0 < far ∧ far ≤ 2 ^ 32 ∧ far % 2 ^ 32 = (target - accumulator).toNat := by
    simp only [far]
    split
    · rename_i met
      simp [met]
    · rename_i ahead
      have := (target - accumulator).isLt
      have nonzero : (target - accumulator).toNat ≠ 0 := by
        intro zero
        exact ahead (sub_eq_zero.1 (BitVec.eq_of_toNat_eq (y := 0) zero))
      omega
  obtain ⟨positive, turn, distance⟩ := reached
  have quotient := Nat.div_add_mod (far - 1) step.toNat
  have remainder := Nat.mod_lt (far - 1) turning
  rw [Nat.mul_comm] at quotient
  refine ⟨(far - 1) / step.toNat, by omega, ?_⟩
  generalize (far - 1) / step.toNat = n at quotient
  have stepped : (step * BitVec.ofNat 32 n).toNat = n * step.toNat := by
    rw [BitVec.toNat_mul, BitVec.toNat_ofNat, Nat.mul_mod_mod, Nat.mul_comm]
    exact Nat.mod_eq_of_lt (by omega)
  have arc : accumulator + step * BitVec.ofNat 32 (n + 1) - (accumulator + step * BitVec.ofNat 32 n) = step := by
    have one : BitVec.ofNat 32 1 = 1 := rfl
    rw [BitVec.ofNat_add, one]
    ring
  have left : (target - (accumulator + step * BitVec.ofNat 32 n)).toNat = far - n * step.toNat := by
    rw [← sub_sub, BitVec.toNat_sub, stepped, ← distance]
    have := step.isLt
    omega
  simp only [onArc, arc, left, Bool.and_eq_true, decide_eq_true_eq]
  omega

/-- Settles O38: the symmetry of the sine table, and the step that reaches the target's distance. -/
theorem samplesAreAntisymmetricAndTargetsAreMet : Obligations.SamplesAreAntisymmetricAndTargetsAreMet :=
  ⟨fun peak angle => ⟨sampleAt_halfTurn peak angle, sampleAt_natAbs_le peak angle⟩, exists_onArc⟩

/-! ## Runs of samples and of windows -/

theorem qualify_pendingOn {q : Nat} {t c : Tick} {n : Nat} : qualify q t true (.pendingOn n c) =
    if q ≤ n + 1 then (.active, .operated c) else (.pendingOn (n + 1) c, .nothing) := rfl

/-- A run under way grows with each agreeing sample and ends at its length (R99). -/
theorem qualify_run (q : Nat) (c : Tick) : ∀ (ticks : List Tick) (n : Nat),
    let taken := ticks.foldl (fun a t => qualify q t true a.1) (Qualification.pendingOn n c, InputChange.nothing)
    (n + ticks.length < q → taken = (.pendingOn (n + ticks.length) c, .nothing)) ∧
    (1 ≤ ticks.length → n + ticks.length = q → taken = (.active, .operated c))
  | [], n => ⟨fun _ => rfl, fun none => absurd none (by decide)⟩
  | t :: rest, n => by
    obtain ⟨grows, completes⟩ := qualify_run q c rest (n + 1)
    simp only [List.foldl_cons, List.length_cons, qualify_pendingOn]
    refine ⟨fun short => ?_, fun _ whole => ?_⟩
    · rw [if_neg (by omega), grows (by omega)]
      simp only [Nat.add_assoc, Nat.add_comm 1]
    · cases rest with
      | nil =>
        rw [List.length_nil] at whole
        rw [if_pos (by omega), List.foldl_nil]
      | cons u rest =>
        rw [List.length_cons] at whole completes
        rw [if_neg (by omega)]
        exact completes (by omega) (by omega)

/-- Windows of one class count on and the last one decides (R87). -/
theorem classify_run {k done : Channel} {P : Nat → Prop}
    (counts : ∀ n r, P r → n + 1 < k.config.qualifying →
      Channel.classify { k with qualifying := n } r = { k with qualifying := n + 1 })
    (decides : ∀ n r, P r → n + 1 = k.config.qualifying → Channel.classify { k with qualifying := n } r = done) :
    ∀ (ratios : List Nat) (n : Nat), (∀ r ∈ ratios, P r) →
      let after := ratios.foldl (fun c r => c.classify r) { k with qualifying := n }
      (n + ratios.length < k.config.qualifying → after = { k with qualifying := n + ratios.length }) ∧
      (1 ≤ ratios.length → n + ratios.length = k.config.qualifying → after = done)
  | [], n, _ => ⟨fun _ => rfl, fun none => absurd none (by decide)⟩
  | r :: rest, n, all => by
    obtain ⟨here, later⟩ := List.forall_mem_cons.1 all
    obtain ⟨grows, completes⟩ := classify_run counts decides rest (n + 1) later
    simp only [List.foldl_cons, List.length_cons]
    refine ⟨fun short => ?_, fun _ whole => ?_⟩
    · rw [counts n r here (by omega), grows (by omega)]
      simp only [Nat.add_assoc, Nat.add_comm 1]
    · cases rest with
      | nil =>
        rw [List.length_nil] at whole
        rw [decides n r here (by omega), List.foldl_nil]
      | cons x rest =>
        rw [List.length_cons] at whole completes
        rw [counts n r here (by omega)]
        exact completes (by omega) (by omega)

section
variable {k : Channel} {r : Nat}

theorem Channel.classify_short (normal : k.lost = false) (short : r < k.config.offThreshold) : k.classify r =
    if k.config.qualifying ≤ k.qualifying + 1 then
      { k with lost := true, qualifying := 0, losses := saturate 65535 (k.losses + 1) }
    else { k with qualifying := k.qualifying + 1 } := by
  simp only [Channel.classify, if_pos short, normal, Bool.false_eq_true, if_false]

theorem Channel.classify_full (lost : k.lost = true) (notShort : k.config.offThreshold ≤ r)
    (full : k.config.onThreshold ≤ r) : k.classify r =
    if k.config.qualifying ≤ k.qualifying + 1 then { k with lost := false, qualifying := 0 }
    else { k with qualifying := k.qualifying + 1 } := by
  simp only [Channel.classify, if_neg (Nat.not_lt.2 notShort), if_neg (Nat.not_lt.2 full), lost, if_true]

end

/-- Settles O35: a run is its first sample and the samples that make it grow, by induction on the samples. -/
theorem runsQualifyAtTheirLength : Obligations.RunsQualifyAtTheirLength := by
  refine ⟨fun q ticks first positive head => ?_, fun k ratios zero => ?_⟩
  · obtain ⟨rest, rfl⟩ := List.head?_eq_some_iff.1 head
    obtain ⟨grows, completes⟩ := qualify_run q first rest 1
    have begun : qualify q first true .inactive =
        if q ≤ 1 then (.active, .operated first) else (.pendingOn 1 first, .nothing) := rfl
    simp only [List.foldl_cons, List.length_cons, begun]
    refine ⟨fun short => ?_, fun whole => ?_⟩
    · rw [if_neg (by omega), grows (by omega), Nat.add_comm]
    · cases rest with
      | nil =>
        rw [List.length_nil] at whole
        rw [if_pos (by omega), List.foldl_nil]
      | cons u rest =>
        rw [List.length_cons] at whole completes
        rw [if_neg (by omega)]
        exact completes (by omega) (by omega)
  · have same : ({ k with qualifying := 0 } : Channel) = k := by rw [← zero]
    refine ⟨fun normal short => ?_, fun lost thresholds full => ?_⟩
    · have step : ∀ n r, r < k.config.offThreshold → Channel.classify { k with qualifying := n } r =
          if k.config.qualifying ≤ n + 1 then
            { k with lost := true, qualifying := 0, losses := saturate 65535 (k.losses + 1) }
          else { k with qualifying := n + 1 } :=
        fun n r below => Channel.classify_short (k := { k with qualifying := n }) normal below
      have run := classify_run (fun n r below few => (step n r below).trans (if_neg (Nat.not_le.2 few)))
        (fun n r below last => (step n r below).trans (if_pos last.ge)) ratios 0 short
      rw [same, Nat.zero_add] at run
      exact ⟨run.1, fun some whole => (run.2 some whole).trans (by rw [← zero]; rfl)⟩
    · have step : ∀ n r, k.config.onThreshold ≤ r → Channel.classify { k with qualifying := n } r =
          if k.config.qualifying ≤ n + 1 then { k with lost := false, qualifying := 0 }
          else { k with qualifying := n + 1 } :=
        fun n r above => Channel.classify_full (k := { k with qualifying := n }) lost (thresholds.trans above) above
      have run := classify_run (fun n r above few => (step n r above).trans (if_neg (Nat.not_le.2 few)))
        (fun n r above last => (step n r above).trans (if_pos last.ge)) ratios 0 full
      rw [same, Nat.zero_add] at run
      exact ⟨run.1, fun some whole => (run.2 some whole).trans (by rw [← zero])⟩

/-! ## Amplifier fault lines -/

section
variable {s : State} {t : Tick} {c : Chan}

theorem exec_assertion (ahead : s.sampleAhead t) (deasserted : (s.channels.get c).faultLine = false)
    (unread : (s.channels.get c).lineReadAt ≠ t) : exec (.amplifierFaultAssertion t c) s = .next
      (State.raiseChannelIf { s with
        tick := t, channels := s.channels.update c (Channel.assertFault t)
        run := { s.run with state := s.run.state.reportFault t } } true) := by
  obtain ⟨instant, ahead⟩ := ahead
  refine congrArg Host.Outcome.next (State.happen_of ahead ?_)
  simp [State.lineReadable, instant, unread, deasserted]

theorem exec_deassertion (ahead : s.sampleAhead t) (unread : (s.channels.get c).lineReadAt ≠ t) :
    exec (.faultLineDeassertion t c) s = .next { s with
      tick := t, channels := s.channels.update c fun r => { r with faultLine := false, lineReadAt := t } } := by
  obtain ⟨instant, ahead⟩ := ahead
  refine congrArg Host.Outcome.next (State.happen_of ahead ?_)
  simp [State.lineReadable, instant, unread]

theorem exec_deassertion_ignored (ahead : s.sampleAhead t) (read : (s.channels.get c).lineReadAt = t) :
    exec (.faultLineDeassertion t c) s = .next { s with tick := t } := by
  refine congrArg Host.Outcome.next (State.happen_of_not ahead.2 ?_)
  simp [State.lineReadable, read]

end

/-- Settles O36: a readable change of the line takes its steps on the one channel record. -/
theorem faultLinesMuteAndCount : Obligations.FaultLinesMuteAndCount := by
  refine fun s t c ahead => ⟨fun no => exec_assertion_ignored ahead.2 no.symm, exec_deassertion_ignored ahead,
    fun deasserted unread => ?_, fun unread => ?_⟩
  · refine ⟨_, exec_assertion ahead deasserted unread, ?_, ?_, fun d other => ?_, fun still => ?_, fun play playing =>
      ⟨fun first => ?_, fun reported => ?_⟩⟩
    · simp only [State.raiseChannelIf, Bool.or_true]
    · simp only [State.raiseChannelIf_channels, PerChannel.get_update, if_true]
      rfl
    · simp only [State.raiseChannelIf_channels, PerChannel.get_update, if_neg other.symm]
    · cases state : s.run.state with
      | playing play => exact absurd state (still play)
      | _ => simp only [State.raiseChannelIf_run, RunState.reportFault]
    · simp only [State.raiseChannelIf_run, RunState.reportFault, playing, first, Option.getD_none]
    · obtain ⟨r, hr⟩ := Option.ne_none_iff_exists'.1 reported
      simp only [State.raiseChannelIf_run, RunState.reportFault, playing, hr, Option.getD_some]
      rw [← hr]
  · refine ⟨_, exec_deassertion ahead unread, rfl, ?_, fun d other => ?_⟩
    · simp only [PerChannel.get_update, if_true]
    · simp only [PerChannel.get_update, if_neg other.symm]

end Sys2Proof.Machine

/-! The checks of the Run Controller before a shot, and what an abort of the ACTIVE test point does (R50, R51, R61,
R109, R159). -/

namespace Sys2Proof.Machine

/-! ## The checks before a shot -/

section
variable (s : State) (c : PointContent)

theorem State.relayReset_iff : s.relayReset c.monitored = true ↔ s.RelayHasReset c := by
  simp [State.relayReset, State.RelayHasReset, imp_iff_not_or]

theorem State.covers_iff (ch : Chan) : s.covers c ch = true ↔ s.Covered c ch := by
  unfold State.covers State.Covered
  rw [Bool.or_eq_true, List.any_eq_true]
  refine or_congr (exists_congr fun h => and_congr_right fun _ => ?_) ?_
  · cases s.states.at? h <;> simp
  · cases c.kind <;> simp

theorem State.fitFor_iff : s.fitFor c = true ↔ s.ChannelsFit c := by
  simp [State.fitFor, State.ChannelsFit, ← s.covers_iff, imp_iff_not_or]

theorem State.letStart_eq (t : Tick) : s.letStart c t = s.setRun (s.goesOn c t) := by
  unfold State.letStart State.goesOn
  cases c.start <;> rfl

/-- The lead is the one difference in its range (R159). -/
theorem leadOver_eq {start label : Nat} {lead : Int} (low : -2831155200 ≤ lead) (high : lead ≤ 2831155199)
    (difference : (5662310400 : Int) ∣ lead - ((start : Int) - label)) : leadOver start label = lead := by
  unfold leadOver
  omega

/-- The schedule check fails as the statements say it (R159). -/
theorem State.scheduleFailure_of_gives {failure : Option AbortReason} (gives : s.ScheduleGives c.start failure) :
    s.scheduleFailure c = failure := by
  unfold State.ScheduleGives at gives
  unfold State.scheduleFailure
  cases start : c.start with
  | immediate => simpa only [start, eq_comm] using gives
  | atTime day second offset =>
    cases label : s.time.label with
    | none => simpa only [start, label, eq_comm] using gives
    | some l =>
      simp only [start, label] at gives ⊢
      obtain ⟨lead, low, high, difference, gives⟩ := gives
      have leads : leadOver (secondCount day second) (secondCount l.day l.second) = lead :=
        leadOver_eq low high (by simpa only [secondCount] using difference)
      rw [leads]
      rcases gives with ⟨untrusted, rfl⟩ | ⟨trusted, late, rfl⟩ | ⟨trusted, far, rfl⟩ | ⟨trusted, due, near, rfl⟩
      · rw [if_pos (by simpa [imp_iff_not_or] using untrusted)]
      · rw [if_neg (by simpa [or_iff_not_imp_left] using trusted), if_pos late]
      · rw [if_neg (by simpa [or_iff_not_imp_left] using trusted), if_neg (by omega), if_pos far]
      · rw [if_neg (by simpa [or_iff_not_imp_left] using trusted), if_neg (by omega), if_neg (by omega)]

end

/-! ## The units at rest -/

section
variable {s k : State}

theorem State.toRest_silenced (s : State) : Silenced s s.toRest := fun c => by
  simp [State.toRest, Synth.silence]

theorem State.toRest_channelsRested (s : State) : ChannelsRested s s.toRest := fun c => by
  simp [State.toRest, Channel.rest, Channel.resting]

theorem Channel.rest_applyPending (k : Channel) : k.rest.applyPending =
    match k.pending with
    | none => k.resting
    | some config => { k.resting with
        config := config, pending := none, fit := k.fit && decide (k.overloads < config.overloadLimit) } := by
  cases pending : k.pending <;>
    simp only [Channel.applyPending, Channel.rest, Channel.resting, Channel.configure, pending]

theorem Input.applyPending_eq (i : Input) : i.applyPending =
    match i.pending with
    | none => i
    | some config => { i with
        config := config
        pending := none
        wetMemory := i.wetMemory && !(config.mode.isWet && !i.config.mode.isWet) } := by
  cases pending : i.pending <;> simp only [Input.applyPending, Input.configure, pending]

/-- The outputs go to rest and every pending configuration is applied. -/
theorem State.rested_pendingApplied (channels : k.channels = s.channels) (inputs : k.inputs = s.inputs) :
    PendingApplied s k.toRest.applyPending where
  channels c := by
    simp only [State.applyPending, State.raiseChannelIf_channels, State.toRest, PerChannel.get_map, channels]
    exact Channel.rest_applyPending _
  inputs n := by
    simp only [State.applyPending, State.raiseChannelIf_inputs, State.toRest, PerInput.get_map, inputs]
    exact Input.applyPending_eq _

theorem State.rested_unfitRaises (channels : k.channels = s.channels) (cause : k.port.channel = s.port.channel) :
    UnfitRaises s k.toRest.applyPending := by
  unfold UnfitRaises State.applyPending State.raiseChannelIf State.toRest
  simp [channels, cause, Channel.rest]

end

/-! ## Aborts -/

/-- Posting as the statements say it (R126). -/
theorem TestPoint.post_posted (r : Result) (p : TestPoint) : p.Posted (p.post r) { r with
    runCount := nextRunCount p.result (r.verdict ≠ .aborted), flags := { r.flags with unread := true, stale := false } } where
  record := rfl
  unread := rfl
  fresh := rfl
  count := by
    by_cases aborted : r.verdict = .aborted <;> cases replaced : p.result <;>
      simp [aborted, nextRunCount, saturate, Nat.min_comm]

section
variable {s : State} {h : Nat} {p : TestPoint}

/-- After a posting the test point holds the result and the others stand. -/
theorem State.postActive_here (active : s.activePoint = some (h, p)) (r : Result) :
    (s.postActive h r).points.at? h = some (p.post r) := by
  rw [State.postActive_at?, if_pos rfl, ((s.activePoint_eq_some h p).1 active).2]
  rfl

theorem State.postActive_others (s : State) (h : Nat) (r : Result) (k : Nat) (other : k ≠ h) :
    (s.postActive h r).points.at? k = s.points.at? k := by
  rw [State.postActive_at?, if_neg other.symm]

theorem State.abortResult_verdict (s : State) (p : TestPoint) (reason : AbortReason) (t : Tick) :
    (s.abortResult p reason t).verdict = .aborted ∧ (s.abortResult p reason t).reason = some reason := by
  unfold State.abortResult
  cases p.content.kind <;> dsimp only <;> split <;> exact ⟨rfl, rfl⟩

/-- The state an abort leaves before its REST, the units apart: notes handed over and the result posted (R61). -/
def State.abortPosted (s : State) (h : Nat) (p : TestPoint) (reason : AbortReason) (t : Tick) : State :=
  (s.handNotes t).postActive h ((s.handNotes t).abortResult p reason t)

theorem State.abortCore_eq (s : State) (h : Nat) (p : TestPoint) (reason : AbortReason) (t : Tick) :
    s.abortCore h p reason t = if s.run.state.isPlaying then (s.abortPosted h p reason t).toRest.applyPending
      else (s.abortPosted h p reason t).toRest := rfl

theorem State.abortActive_eq (active : s.activePoint = some (h, p)) (reason : AbortReason) (t : Tick) :
    s.abortActive reason t = (s.abortCore h p reason t).enterRest t none := by
  simp only [State.abortActive, active]

/-- What every abort leaves, whether or not pending configurations are applied. -/
theorem State.abortCore_posted (active : s.activePoint = some (h, p)) (reason : AbortReason) (t : Tick) :
    (∃ q, (s.abortCore h p reason t).points.at? h = some q ∧ p.AbortedTo q reason) ∧
      ∀ k, k ≠ h → (s.abortCore h p reason t).points.at? k = s.points.at? k := by
  obtain ⟨verdict, why⟩ := (s.handNotes t).abortResult_verdict p reason t
  have points : (s.abortCore h p reason t).points = (s.abortPosted h p reason t).points := by
    rw [State.abortCore_eq]
    split <;> rfl
  rw [points]
  exact ⟨⟨_, State.postActive_here (s := s.handNotes t) active _, _, TestPoint.post_posted _ p, verdict, why⟩,
    State.postActive_others _ _ _⟩

/-- An abort of the ACTIVE test point as the statements say it (R61). -/
theorem State.abortActive_abortedAt (active : s.activePoint = some (h, p)) (reason : AbortReason) {t : Tick}
    (now : s.tick = t) : AbortedAt s (s.abortActive reason t) h p reason t := by
  rw [State.abortActive_eq active]
  obtain ⟨posted, others⟩ := s.abortCore_posted active reason t
  obtain ⟨atRest, -⟩ := s.abortCore_rest h p reason t
  have core := s.abortCore_eq h p reason t
  cases playing : s.run.state.isPlaying
  · rw [playing, if_neg (by decide)] at core
    refine ⟨posted, others, ?_, ⟨atRest.snapshot, atRest.outputs, atRest.channels⟩, ?_, fun play => ?_, fun _ => ?_, ?_, ?_⟩
    · simp only [State.enterRest, State.setRun, State.abortCore_active]
    · rw [core]
      exact State.toRest_silenced _
    · rw [playing] at play
      cases play
    · rw [core]
      exact ⟨State.toRest_channelsRested _, rfl⟩
    · rw [core]
      simp only [UnfitRaises, State.enterRest, State.setRun, State.toRest, PerChannel.get_map, Channel.rest]
      refine ⟨.inl, fun raised => raised.resolve_right fun ⟨c, fit, unfit⟩ => ?_⟩
      exact absurd (fit.symm.trans unfit) (by decide)
    · rw [core, ← now]
      rfl
  · rw [playing, if_pos rfl] at core
    refine ⟨posted, others, ?_, ⟨atRest.snapshot, atRest.outputs, atRest.channels⟩, ?_, fun _ => ?_, fun still => ?_, ?_, ?_⟩
    · simp only [State.enterRest, State.setRun, State.abortCore_active]
    · rw [core]
      exact State.toRest_silenced _
    · rw [core]
      obtain ⟨channels, inputs⟩ := State.rested_pendingApplied (s := s) (k := s.abortPosted h p reason t) rfl rfl
      exact ⟨channels, inputs⟩
    · rw [playing] at still
      cases still
    · rw [core]
      exact State.rested_unfitRaises (s := s) (k := s.abortPosted h p reason t) rfl rfl
    · rw [core, ← now]
      rfl

theorem State.abortActive_port (s : State) (reason : AbortReason) (t : Tick) :
    (s.abortActive reason t).port = { s.port with channel := (s.abortActive reason t).port.channel } := by
  rcases s.abortActive_cases reason t with ⟨-, same⟩ | ⟨h, p, -, aborted⟩
  · rw [same]
  · rw [aborted, State.abortCore_eq]
    split <;> rfl

/-- Out of PLAYING no configuration is applied, and the port stays. -/
theorem State.abortActive_port_waiting (still : s.run.state.isPlaying = false) (reason : AbortReason) (t : Tick) :
    (s.abortActive reason t).port = s.port := by
  rcases s.abortActive_cases reason t with ⟨-, same⟩ | ⟨h, p, -, aborted⟩
  · rw [same]
  · rw [aborted, State.abortCore_eq, still, if_neg (by decide)]
    rfl

/-- The tick counter before an abort plays no part in what it does. -/
theorem AbortedAt.of_tick {u : State} {reason : AbortReason} {t x : Tick}
    (a : AbortedAt { s with tick := x } u h p reason t) : AbortedAt s u h p reason t :=
  ⟨a.posted, a.others, a.run, a.rest, a.silenced, fun play => ⟨(a.playing play).channels, (a.playing play).inputs⟩,
    a.waiting, a.cause, a.frame⟩

end

end Sys2Proof.Machine

/-! The ends of runs: the aborts at an instant, what their results hold, and run reset (R61 to R64, R124). -/

namespace Sys2Proof.Machine

/-! ## Generator instants -/

/-- The state once a generator instant not passed is reached, every accumulator stepped (R67). -/
def State.stepped (s : State) (t : Tick) : State := { s with tick := t, gen := s.gen.arrive t }

section
variable {s : State} {t : Tick}

theorem State.atInstant_of_reached (ahead : Tick.reached s.tick t = true) : s.atInstant t = s.stepped t := by
  rw [State.atInstant, State.advanceTo_of_reached ahead]
  rfl

theorem State.onInstant_of (ahead : s.instantAhead t) {condition : State → Bool} {effect : State → State}
    (yes : condition { s with tick := t } = true) : s.onInstant t condition effect = effect (s.stepped t) := by
  rw [← State.advanceTo_of_reached ahead.2] at yes
  rw [State.onInstant, ahead.1, yes, State.atInstant_of_reached ahead.2]
  rfl

theorem Generator.arrive_synths (g : Generator) (t : Tick) (c : Chan) :
    ∃ a, (g.arrive t).synths.get c = { g.synths.get c with accumulator := a } := by
  unfold Generator.arrive
  split
  · exact ⟨_, rfl⟩
  · simp only [PerChannel.get_map]
    exact ⟨_, rfl⟩

theorem Generator.arrive_clampNote (g : Generator) (t : Tick) (c : Chan) :
    ((g.arrive t).synths.get c).clampNote = (g.synths.get c).clampNote := by
  obtain ⟨a, moved⟩ := g.arrive_synths t c
  rw [moved]

/-! ## The shot in hand at an instant -/

/-- An instant reached, with the instant noted at which the fault state ended (R135). -/
def State.endedAt (s : State) (t : Tick) (faultEnd : Option Tick) : State :=
  { s.stepped t with shot := { s.shot with faultEnd := faultEnd } }

theorem State.noteFaultEnd_stepped (s : State) (t : Tick) (c : PointContent) (position : Nat) :
    (s.stepped t).noteFaultEnd c position t =
      s.endedAt t (if position = c.faultPosition then some t else s.shot.faultEnd) := by
  unfold State.noteFaultEnd
  split <;> rfl

section
variable (faultEnd : Option Tick)

/-- The clamp notes of the state in play join those handed over (R74). -/
theorem State.handNotes_handed : NotesHanded s ((s.endedAt t faultEnd).handNotes t) t := by
  intro n
  simp only [State.handNotes, List.mem_append, Generator.notesEnding, List.mem_filterMap, Chan.mem_all, true_and,
    Option.map_eq_some_iff, State.endedAt, State.stepped, Generator.arrive_clampNote]
  refine or_congr_right ⟨?_, fun ⟨ended, noted⟩ => ⟨n.channel, n.entry, noted, by rw [← ended]⟩⟩
  rintro ⟨c, e, noted, rfl⟩
  exact ⟨rfl, noted⟩

theorem State.endedAt_clampedIn (x ended : Tick) : (s.endedAt t faultEnd).ClampedIn x ended ↔ s.ClampedIn x ended := by
  simp only [State.ClampedIn, State.endedAt, State.stepped, Generator.arrive_clampNote]

/-- The findings made once the notes are handed over, as the statements say them (R118 to R120). -/
theorem State.findings_endedAt (s : State) (t : Tick) (faultEnd : Option Tick) (c : PointContent) (ended : Tick) :
    let f := ((s.endedAt t faultEnd).handNotes t).findings c.monitored ended
    (f.prefault = true ↔ s.OperatedEarly c) ∧
      (f.clamped = true ↔ ∃ x, s.shot.inception = some x ∧ s.ClampedIn x ended) ∧
      (f.compliance = true ↔ ∃ x, s.shot.inception = some x ∧ s.shot.LostIn x ended) := by
  have prefault : ((s.endedAt t faultEnd).handNotes t).prefault c.monitored = true ↔ s.OperatedEarly c :=
    State.prefault_iff _ c
  have kept : ((s.endedAt t faultEnd).handNotes t).shot.inception = s.shot.inception := rfl
  unfold State.findings
  rw [kept]
  cases s.shot.inception with
  | none => simpa using prefault
  | some x =>
    refine ⟨prefault, ?_, ?_⟩
    · simp only [State.clamped_iff, State.endedAt_clampedIn, Option.some.injEq, exists_eq_left']
    · simp only [ShotRecord.complianceDoubt_iff, Option.some.injEq, exists_eq_left']
      rfl

theorem State.operatedList_endedAt : s.OperatedListed ((s.endedAt t faultEnd).handNotes t).operatedList :=
  State.operatedList_listed s

end

theorem ShotRecord.inHoldover_iff (r : ShotRecord) :
    r.inHoldover = true ↔ ∃ skew, r.startConditions = some (.holdover, skew) := by
  unfold ShotRecord.inHoldover
  rcases r.startConditions with _ | ⟨lock, skew⟩
  · simp
  · simp [eq_comm]

theorem RunState.started_iff (r : RunState) :
    r.started = true ↔ ∃ play, r = .playing play ∧ ∀ due, play.stage ≠ .ready due := by
  cases r with
  | playing play =>
    obtain ⟨stage, fault⟩ := play
    cases stage <;> simp [RunState.started]
  | _ => simp [RunState.started]

end

/-! ## The commands that abort -/

section
variable {s : State} {t : Tick} {h : Nat} {p : TestPoint} {i : Instr} {reason : AbortReason}

theorem State.stepped_activePoint (s : State) (t : Tick) : (s.stepped t).activePoint = s.activePoint := rfl

theorem AbortedAt.answered {u : State} (a : AbortedAt s u h p reason t) (code : Nat) (payload : List Byte) :
    AbortedAt s { u with port := u.port.answered code payload } h p reason t :=
  ⟨a.posted, a.others, a.run, ⟨a.rest.snapshot, a.rest.outputs, a.rest.channels⟩, a.silenced,
    fun play => ⟨(a.playing play).channels, (a.playing play).inputs⟩, a.waiting, a.cause,
    congrArg (fun w => { w with port := u.port.answered code payload }) a.frame⟩

/-- Every abort at an instant but run reset aborts the ACTIVE test point there; SHOT_ABORT is answered. -/
theorem exec_of_abortsAt (ahead : s.instantAhead t) (active : s.activePoint = some (h, p)) (aborts : s.AbortsAt t i reason)
    (notReset : i ≠ .runReset t) :
    let w := (s.stepped t).abortActive reason t
    exec i s = .next { w with port := if i = .shotAbort t then w.port.answered 0 [] else w.port } := by
  rcases aborts with ⟨rfl, rfl⟩ | ⟨rfl, rfl⟩ | ⟨rfl, rfl, r, due, reported⟩ | ⟨rfl, rfl, wait, r, waiting, lost, due⟩ |
    ⟨rfl, rfl, since, limit, waiting, due⟩
  · rw [exec_shotAbort ahead.1 active, State.atInstant_of_reached ahead.2]
    dsimp only
    rw [if_pos rfl]
    rfl
  · exact absurd rfl notReset
  · refine congrArg Host.Outcome.next (State.onInstant_of ahead ?_)
    rcases reported with ⟨play, playing, fault⟩ | ⟨since, interval, ended, resting⟩
    · simp only [State.faultDue, RunState.pendingFault?, playing, fault, due]
    · simp only [State.faultDue, RunState.pendingFault?, resting, due]
  · refine congrArg Host.Outcome.next (State.onInstant_of ahead ?_)
    simp only [State.timeLostDue, waiting, lost, due]
  · refine congrArg Host.Outcome.next (State.onInstant_of ahead ?_)
    simp only [State.resetWaitOver, waiting, afterMillis, due]

end

/-- Settles O24: each of the commands aborts at the instant reached, and the abort takes its steps. -/
theorem abortsPostAndRest : Obligations.AbortsPostAndRest := by
  refine fun s t ahead => ⟨fun none => ?_, fun h p i reason active aborts notReset => ?_⟩
  · have still : (s.stepped t).activePoint = Option.none := none
    simp only [exec, execShotAbort, Tick.instantAtOrAfter_of_instant ahead.1, State.atInstant_of_reached ahead.2, still]
    rfl
  · have aborted : AbortedAt { s with gen := s.gen.arrive t } ((s.stepped t).abortActive reason t) h p reason t :=
      AbortedAt.of_tick (x := t) (State.abortActive_abortedAt (s := s.stepped t) active reason rfl)
    have port := (s.stepped t).abortActive_port reason t
    refine ⟨_, exec_of_abortsAt ahead active aborts notReset, ?_, ?_⟩
    · split
      · exact aborted.answered 0 []
      · exact aborted
    · dsimp only
      split
      · exact congrArg (Port.answered · 0 []) port
      · exact port

end Sys2Proof.Machine

/-! Run reset, and what the ABORTED result of an abort at an instant holds. -/

namespace Sys2Proof.Machine

/-! ## Units at rest stay as they are -/

section
variable {k : State}

theorem Synth.silence_of_silent {y : Synth} (applied : y.applied = 0) (peak : y.peak = 0) (note : y.clampNote = none) :
    y.silence = y := by
  cases y
  subst applied peak note
  rfl

theorem Channel.rest_of_resting {c : Channel} (lost : c.lost = false) (count : c.qualifying = 0)
    (window : c.window = none) : c.rest = c := by
  cases c
  subst lost count window
  rfl

theorem State.toRest_of_atRest (rest : AtRest k) : k.toRest = k := by
  obtain ⟨snapshot, outputs, channels⟩ := rest
  have synths : k.gen.synths.map Synth.silence = k.gen.synths := PerChannel.ext_get fun c => by
    obtain ⟨applied, peak, note, -⟩ := channels c
    rw [PerChannel.get_map, Synth.silence_of_silent applied peak note]
  have units : k.channels.map Channel.rest = k.channels := PerChannel.ext_get fun c => by
    obtain ⟨-, -, -, window, lost, count⟩ := channels c
    rw [PerChannel.get_map, Channel.rest_of_resting lost count window]
  have gen : { k.gen with synths := k.gen.synths.map Synth.silence, snapshot := none, outputs := k.idleOutputs } =
      k.gen := by
    rw [synths, ← snapshot, ← outputs]
  unfold State.toRest
  rw [gen, units]

theorem State.applyPending_of_nothingPending (nothing : NothingPending k) : k.applyPending = k := by
  have channel : ∀ c, (k.channels.get c).applyPending = k.channels.get c := fun c => by
    rw [Channel.applyPending, nothing.channels c]
  have input : ∀ n, (k.inputs.get n).applyPending = k.inputs.get n := fun n => by
    rw [Input.applyPending, nothing.inputs n]
  have channels : k.channels.map Channel.applyPending = k.channels := PerChannel.ext_get fun c => by
    rw [PerChannel.get_map, channel]
  have inputs : k.inputs.map Input.applyPending = k.inputs := PerInput.ext_get fun n => by
    rw [PerInput.get_map, input]
  have calm : (Chan.all.any fun c => (k.channels.get c).fit && !(k.channels.get c).applyPending.fit) = false := by
    rw [List.any_eq_false]
    intro c _
    rw [channel, Bool.and_not_self]
    decide
  unfold State.applyPending
  rw [channels, inputs, calm, State.raiseChannelIf, Bool.or_false]

/-- Going to rest and applying what is pending a second time changes nothing. -/
theorem State.rested_rested (k : State) : k.toRest.applyPending.toRest.applyPending = k.toRest.applyPending := by
  rw [State.toRest_of_atRest (State.applyPending_atRest k.toRest_atRest),
    State.applyPending_of_nothingPending k.toRest.applyPending_nothingPending]

theorem State.abortCore_rested (s : State) (h : Nat) (p : TestPoint) (reason : AbortReason) (t : Tick) :
    (s.abortCore h p reason t).toRest.applyPending = (s.abortPosted h p reason t).toRest.applyPending := by
  rw [State.abortCore_eq]
  split
  · exact State.rested_rested _
  · rw [State.toRest_of_atRest (State.toRest_atRest _)]

end

/-! ## Run reset -/

/-- The posting of run reset on the ACTIVE test point, the units apart (R64). -/
def State.resetPosted (s : State) (t : Tick) : State :=
  match s.activePoint with
  | some (h, p) => (s.stepped t).abortPosted h p .runReset t
  | none => s.stepped t

section
variable {s : State} {t : Tick}

theorem exec_runReset (ahead : s.instantAhead t) :
    let rested := (s.resetPosted t).toRest.applyPending
    exec (.runReset t) s = .next ((State.raiseQueueEmpty { rested with
      points := rested.points.changeAll fun _ p => p.runReset
      run := { rested.run with queue := [], state := .idle, active := none, hold := false } }).accept []) := by
  simp only [exec, execRunReset, Tick.instantAtOrAfter_of_instant ahead.1, State.atInstant_of_reached ahead.2,
    State.stepped_activePoint, State.resetPosted]
  cases s.activePoint with
  | none => rfl
  | some e => simp only [State.abortCore_rested]

theorem State.resetPosted_eq (s : State) (t : Tick) : s.resetPosted t = { s.stepped t with
    points := (s.resetPosted t).points
    run := { s.run with active := (s.resetPosted t).run.active }
    shot := (s.resetPosted t).shot } := by
  unfold State.resetPosted
  cases s.activePoint <;> rfl

theorem TestPoint.abortSuspended_abortedTo (reason : AbortReason) (p : TestPoint) :
    p.AbortedTo (p.abortSuspended reason) reason := by
  unfold TestPoint.abortSuspended
  cases p.content.kind with
  | search params => exact ⟨_, TestPoint.post_posted (searchAbort reason _) p, rfl, rfl⟩
  | shot x a b => exact ⟨_, TestPoint.post_posted (bareAbort reason) p, rfl, rfl⟩

theorem TestPoint.runReset_suspended {p : TestPoint} (suspended : p.status = .suspended) :
    p.runReset = p.abortSuspended .runReset := by
  rw [TestPoint.runReset, suspended]

theorem TestPoint.runReset_other {p : TestPoint} (other : p.status ≠ .suspended) :
    p.runReset = { p with status := .idle, context := none } := by
  cases status : p.status with
  | suspended => exact absurd status other
  | _ => rw [TestPoint.runReset, status]

theorem State.resetPosted_active {h : Nat} {p : TestPoint} (active : s.run.active = some h)
    (present : s.points.at? h = some p) :
    (s.resetPosted t).points.at? h = some (p.post (((s.stepped t).handNotes t).abortResult p .runReset t)) := by
  have found := (s.activePoint_eq_some h p).2 ⟨active, present⟩
  unfold State.resetPosted
  simp only [found]
  exact State.postActive_here (s := (s.stepped t).handNotes t) found _

theorem State.resetPosted_others {k : Nat} (other : s.run.active ≠ some k) :
    (s.resetPosted t).points.at? k = s.points.at? k := by
  unfold State.resetPosted
  cases active : s.activePoint with
  | none => rfl
  | some e =>
    obtain ⟨h, p⟩ := e
    have running := ((s.activePoint_eq_some h p).1 active).1
    refine State.postActive_others ((s.stepped t).handNotes t) h _ k fun same => other ?_
    rw [running, same]

theorem State.resetPosted_absent {k : Nat} (absent : s.points.at? k = none) : (s.resetPosted t).points.at? k = none := by
  unfold State.resetPosted
  cases s.activePoint with
  | none => exact absent
  | some e =>
    have unchanged : ((s.stepped t).handNotes t).points.at? k = none := absent
    simp only [State.abortPosted, State.postActive_at?, unchanged, Option.map_none, ite_self]

end

/-- The records after run reset: the ACTIVE test point and every SUSPENDED search aborted, the others IDLE (R64). -/
theorem State.resetPosted_records (s : State) (t : Tick) :
    let points := (s.resetPosted t).points.changeAll fun _ p => p.runReset
    (∀ k, s.points.at? k = none → points.at? k = none) ∧
    ∀ k p, s.points.at? k = some p → ∃ q, points.at? k = some q ∧
      ((s.run.active = some k ∨ p.status = .suspended) → p.AbortedTo q .runReset) ∧
      (s.run.active ≠ some k → p.status ≠ .suspended → q = { p with status := .idle, context := none }) := by
  simp only [Table.at?_changeAll]
  refine ⟨fun k absent => by rw [State.resetPosted_absent absent]; rfl, fun k p present => ?_⟩
  by_cases active : s.run.active = some k
  · rw [State.resetPosted_active active present]
    obtain ⟨verdict, why⟩ := ((s.stepped t).handNotes t).abortResult_verdict p .runReset t
    exact ⟨_, rfl, fun _ => ⟨_, TestPoint.post_posted _ p, verdict, why⟩, fun other => absurd active other⟩
  · rw [State.resetPosted_others active, present]
    refine ⟨_, rfl, fun aborted => ?_, fun _ other => TestPoint.runReset_other other⟩
    show p.AbortedTo p.runReset .runReset
    rw [TestPoint.runReset_suspended (aborted.resolve_left active)]
    exact p.abortSuspended_abortedTo .runReset

/-- Settles O26: the posting on the ACTIVE test point, then the reset of every record. -/
theorem runResetEndsEverything : Obligations.RunResetEndsEverything := by
  intro s t ahead
  have posted := s.resetPosted_eq t
  have channels : (s.resetPosted t).channels = s.channels := by rw [posted]; rfl
  have inputs : (s.resetPosted t).inputs = s.inputs := by rw [posted]; rfl
  have port : (s.resetPosted t).port = s.port := by rw [posted]; rfl
  have gen : (s.resetPosted t).gen = s.gen.arrive t := by rw [posted]; rfl
  obtain ⟨applied, sensed⟩ := State.rested_pendingApplied channels inputs
  have raised := State.rested_unfitRaises channels (congrArg Port.channel port)
  obtain ⟨absent, records⟩ := s.resetPosted_records t
  refine ⟨_, exec_runReset ahead, ?_, fun c => ?_, ⟨applied, sensed⟩, raised, absent, records⟩
  · rw [posted]
    rfl
  · have silent := (s.resetPosted t).toRest_silenced c
    rw [gen] at silent
    exact silent

/-! ## What aborted results hold -/

/-- The ABORTED result of a shot that had its start instant (R124). -/
theorem State.abortResult_shot_begun {k : State} {p : TestPoint} {x : Expectation} {a b : Nat}
    (kind : p.content.kind = .shot x a b) (begun : k.run.state.started = true) (reason : AbortReason) (t : Tick) :
    k.abortResult p reason t = k.shotResult p.content t (some reason) := by
  simp only [State.abortResult, kind, begun, if_true]

theorem State.abortResult_shot_waiting {k : State} {p : TestPoint} {x : Expectation} {a b : Nat}
    (kind : p.content.kind = .shot x a b) (waiting : k.run.state.started = false) (reason : AbortReason) (t : Tick) :
    k.abortResult p reason t = bareAbort reason := by
  simp only [State.abortResult, kind, waiting, Bool.false_eq_true, if_false]

/-- The ABORTED result of a search whose shot had its start instant (R139). -/
theorem State.abortResult_search_begun {k : State} {p : TestPoint} {params : SearchParams}
    (kind : p.content.kind = .search params) (begun : k.run.state.started = true) (reason : AbortReason) (t : Tick) :
    k.abortResult p reason t = searchResult .aborted (some reason) (p.context.getD params.firstContext) none
      (k.findings p.content.monitored t) k.operatedList := by
  simp only [State.abortResult, kind, begun, if_true]

theorem State.abortResult_search_waiting {k : State} {p : TestPoint} {params : SearchParams}
    (kind : p.content.kind = .search params) (waiting : k.run.state.started = false) (reason : AbortReason) (t : Tick) :
    k.abortResult p reason t = searchAbort reason (p.context.getD params.firstContext) := by
  simp only [State.abortResult, kind, waiting, Bool.false_eq_true, if_false]

/-- The shot in hand has had its start instant (R124). -/
def State.Begun (s : State) : Prop := ∃ play, s.run.state = .playing play ∧ ∀ due, play.stage ≠ .ready due

/-- The doubts of delivery a result names, over the interval judged to a tick (R119, R120). -/
def State.Doubts (s : State) (r : Result) (ended : Tick) : Prop :=
  (r.flags.clamped = true ↔ ∃ x, s.shot.inception = some x ∧ s.ClampedIn x ended) ∧
    (r.flags.compliance = true ↔ ∃ x, s.shot.inception = some x ∧ s.shot.LostIn x ended)

/-- What the ABORTED result of a test point holds, but for what the posting sets (R38, R124, R139). -/
structure State.AbortHolds (s : State) (t : Tick) (p : TestPoint) (r : Result) : Prop where
  shortWindow : r.flags.shortWindow = false
  waiting : ¬ s.Begun →
    r.operated = [] ∧ r.flags.prefault = false ∧ r.flags.clamped = false ∧ r.flags.compliance = false
  begun : s.Begun → (r.flags.prefault = true ↔ s.OperatedEarly p.content) ∧ s.OperatedListed r.operated
  shot : ∀ x a b, p.content.kind = .shot x a b → r.search = none ∧
    (¬ s.Begun → r.flags.timeHoldover = false ∧
      r.measured = none ∧ r.expected = none ∧ r.multiple = none ∧ r.revision = none ∧ r.skew = none) ∧
    (s.Begun → s.Doubts r (s.shot.tripInstant.getD t) ∧
      (r.flags.timeHoldover = true ↔ ∃ skew, s.shot.startConditions = some (.holdover, skew)) ∧
      r.skew = s.shot.startConditions.map Prod.snd ∧
      r.measured = s.shot.tripTime.map (fun time => min time 4294967295) ∧
      r.expected = s.shot.working.bind Working.expected? ∧ r.multiple = s.shot.working.bind Working.multiple? ∧
      r.revision = s.shot.working.bind Working.revision?)
  search : ∀ k c, p.content.kind = .search k → p.context = some c →
    (s.Begun → s.Doubts r t) ∧ r.flags.timeHoldover = false ∧
    r.measured = none ∧ r.expected = none ∧ r.multiple = none ∧ r.revision = none ∧ r.skew = none ∧
    r.search = some { lower := c.lower, upper := c.upper, boundary := none, shotsUsed := c.shotsUsed }

section
variable {s : State} {p : TestPoint}

/-- The abort of a SHOT test point whose shot had begun is judged to the trip, or to the abort (R119). -/
theorem State.abortHolds_shot_begun {x : Expectation} {a b : Nat} (kind : p.content.kind = .shot x a b)
    (begun : s.Begun) (reason : AbortReason) (t : Tick) :
    s.AbortHolds t p (((s.stepped t).handNotes t).shotResult p.content t (some reason)) := by
  have judged : ((s.stepped t).handNotes t).shot.judgedEnd t = s.shot.tripInstant.getD t := ShotRecord.judgedEnd_eq _ t
  have measured : ((s.stepped t).handNotes t).shot.measured = s.shot.tripTime := ShotRecord.measured_eq _
  have found := s.findings_endedAt t s.shot.faultEnd p.content (s.shot.tripInstant.getD t)
  obtain ⟨prefault, clamped, compliance⟩ := found
  unfold State.shotResult
  rw [judged, measured]
  exact {
    shortWindow := rfl
    waiting := fun no => absurd begun no
    begun := fun _ => ⟨prefault, s.operatedList_endedAt s.shot.faultEnd⟩
    shot := fun _ _ _ _ => ⟨rfl, fun no => absurd begun no, fun _ => ⟨⟨clamped, compliance⟩,
      ShotRecord.inHoldover_iff s.shot, rfl, rfl, rfl, rfl, rfl⟩⟩
    search := fun k c search => by
      rw [kind] at search
      cases search }

theorem State.abortHolds_shot_waiting {x : Expectation} {a b : Nat} (kind : p.content.kind = .shot x a b)
    (waiting : ¬ s.Begun) (reason : AbortReason) (t : Tick) : s.AbortHolds t p (bareAbort reason) where
  shortWindow := rfl
  waiting _ := ⟨rfl, rfl, rfl, rfl⟩
  begun yes := absurd yes waiting
  shot _ _ _ _ := ⟨rfl, fun _ => ⟨rfl, rfl, rfl, rfl, rfl, rfl⟩, fun yes => absurd yes waiting⟩
  search k c search := by
    rw [kind] at search
    cases search

/-- The abort of a search whose shot had begun is judged to the abort (R144). -/
theorem State.abortHolds_search_begun {params : SearchParams} (kind : p.content.kind = .search params)
    (begun : s.Begun) (reason : AbortReason) (t : Tick) :
    s.AbortHolds t p (searchResult .aborted (some reason) (p.context.getD params.firstContext) none
      (((s.stepped t).handNotes t).findings p.content.monitored t) ((s.stepped t).handNotes t).operatedList) := by
  obtain ⟨prefault, clamped, compliance⟩ := s.findings_endedAt t s.shot.faultEnd p.content t
  exact {
    shortWindow := rfl
    waiting := fun no => absurd begun no
    begun := fun _ => ⟨prefault, s.operatedList_endedAt s.shot.faultEnd⟩
    shot := fun x a b shot => by
      rw [kind] at shot
      cases shot
    search := fun k c _ context => by
      rw [context]
      exact ⟨fun _ => ⟨clamped, compliance⟩, rfl, rfl, rfl, rfl, rfl, rfl, rfl⟩ }

theorem State.abortHolds_search_waiting {params : SearchParams} (kind : p.content.kind = .search params)
    (waiting : ¬ s.Begun) (reason : AbortReason) (t : Tick) :
    s.AbortHolds t p (searchAbort reason (p.context.getD params.firstContext)) where
  shortWindow := rfl
  waiting _ := ⟨rfl, rfl, rfl, rfl⟩
  begun yes := absurd yes waiting
  shot x a b shot := by
    rw [kind] at shot
    cases shot
  search k c _ context := by
    rw [context]
    exact ⟨fun yes => absurd yes waiting, rfl, rfl, rfl, rfl, rfl, rfl, rfl⟩

theorem State.abortResult_holds (s : State) (p : TestPoint) (reason : AbortReason) (t : Tick) :
    s.AbortHolds t p (((s.stepped t).handNotes t).abortResult p reason t) := by
  have started : ((s.stepped t).handNotes t).run.state.started = true ↔ s.Begun := s.run.state.started_iff
  cases kind : p.content.kind with
  | shot x a b =>
    cases begun : ((s.stepped t).handNotes t).run.state.started with
    | true =>
      rw [State.abortResult_shot_begun kind begun]
      exact State.abortHolds_shot_begun kind (started.1 begun) reason t
    | false =>
      rw [State.abortResult_shot_waiting kind begun]
      exact State.abortHolds_shot_waiting kind (fun yes => by rw [started.2 yes] at begun; cases begun) reason t
  | search params =>
    cases begun : ((s.stepped t).handNotes t).run.state.started with
    | true =>
      rw [State.abortResult_search_begun kind begun]
      exact State.abortHolds_search_begun kind (started.1 begun) reason t
    | false =>
      rw [State.abortResult_search_waiting kind begun]
      exact State.abortHolds_search_waiting kind (fun yes => by rw [started.2 yes] at begun; cases begun) reason t

/-- Every abort at an instant leaves the posted result at the handle (R61, R64). -/
theorem abort_posts {t : Tick} {i : Instr} {reason : AbortReason} {h : Nat} (ahead : s.instantAhead t)
    (active : s.activePoint = some (h, p)) (aborts : s.AbortsAt t i reason) :
    ∃ u, exec i s = .next u ∧
      u.points.at? h = some (p.post (((s.stepped t).handNotes t).abortResult p reason t)) := by
  by_cases reset : i = .runReset t
  · have why : reason = .runReset := by
      subst reset
      rcases aborts with ⟨other, -⟩ | ⟨-, same⟩ | ⟨other, -⟩ | ⟨other, -⟩ | ⟨other, -⟩
      case inr.inl => exact same
      all_goals cases other
    subst reset why
    refine ⟨_, exec_runReset ahead, ?_⟩
    obtain ⟨running, present⟩ := (s.activePoint_eq_some h p).1 active
    have posted := State.resetPosted_active (t := t) running present
    show (Table.changeAll (s.resetPosted t).points fun _ p => p.runReset).at? h = _
    rw [Table.at?_changeAll, posted]
    rfl
  · refine ⟨_, exec_of_abortsAt ahead active aborts reset, ?_⟩
    show ((s.stepped t).abortActive reason t).points.at? h = _
    rw [State.abortActive_eq (s := s.stepped t) active]
    show ((s.stepped t).abortCore h p reason t).points.at? h = _
    rw [State.abortCore_points]
    exact State.postActive_here (s := (s.stepped t).handNotes t) active _

end

/-- Settles O25: the result is formed on the notes handed over, and posting keeps what it holds. -/
theorem abortedResultsHoldWhatTheShotReached : Obligations.AbortedResultsHoldWhatTheShotReached := by
  intro s t i reason h p ahead active aborts begun doubts
  obtain ⟨u, run, present⟩ := abort_posts ahead active aborts
  obtain ⟨verdict, why⟩ := ((s.stepped t).handNotes t).abortResult_verdict p reason t
  obtain ⟨shortWindow, waiting, begun, shot, search⟩ := s.abortResult_holds p reason t
  exact ⟨u, _, _, run, present, TestPoint.post_posted _ p, verdict, why, shortWindow, waiting, begun, shot, search⟩

end Sys2Proof.Machine

/-! PRECHECK, the taking of the head and the queue requests (R42 to R53). -/

namespace Sys2Proof.Machine

/-! ## PRECHECK -/

/-- The ABORTED result of a test point whose shot had no start instant (R124, R139). -/
def TestPoint.abortWaiting (p : TestPoint) (reason : AbortReason) : Result :=
  match p.content.kind with
  | .shot _ _ _ => bareAbort reason
  | .search params => searchAbort reason (p.context.getD params.firstContext)

/-- An abort before the start instant: no configuration is applied (R61). -/
def State.abortedWaiting (k : State) (h : Nat) (p : TestPoint) (reason : AbortReason) (t : Tick) : State :=
  (((k.handNotes t).postActive h (p.abortWaiting reason)).toRest).enterRest t none

section
variable {k : State} {h : Nat} {p : TestPoint} {t : Tick}

theorem State.abortActive_waiting (active : k.activePoint = some (h, p)) (still : k.run.state.isPlaying = false)
    (reason : AbortReason) (t : Tick) : k.abortActive reason t = k.abortedWaiting h p reason t := by
  have waiting : (k.handNotes t).run.state.started = false := by
    show k.run.state.started = false
    cases state : k.run.state with
    | playing play => rw [state] at still; cases still
    | _ => rfl
  have result : (k.handNotes t).abortResult p reason t = p.abortWaiting reason := by
    unfold TestPoint.abortWaiting
    cases kind : p.content.kind with
    | shot x a b => exact State.abortResult_shot_waiting kind waiting reason t
    | search params => exact State.abortResult_search_waiting kind waiting reason t
  rw [State.abortActive_eq active, State.abortCore_eq, still, if_neg (by decide), State.abortPosted, result]
  rfl

variable (active : k.activePoint = some (h, p))
include active

theorem State.precheck_unfit (unfit : ¬ k.ChannelsFit p.content) :
    k.precheck t = (k.setRun .precheck).abortActive .channelUnfit t := by
  have found : (k.setRun .precheck).activePoint = some (h, p) := active
  have fails : (k.setRun .precheck).fitFor p.content = false :=
    Bool.eq_false_iff.2 fun fit => unfit ((k.fitFor_iff p.content).1 fit)
  simp only [State.precheck, found, fails, Bool.not_false, if_true]

theorem State.precheck_fit (fit : k.ChannelsFit p.content) : k.precheck t =
    match k.scheduleFailure p.content with
    | some reason => (k.setRun .precheck).abortActive reason t
    | none => if k.relayReset p.content.monitored then (k.setRun .precheck).letStart p.content t
      else k.setRun (.resetWait t k.run.setup.resetWait) := by
  have found : (k.setRun .precheck).activePoint = some (h, p) := active
  have passes : (k.setRun .precheck).fitFor p.content = true := (k.fitFor_iff p.content).2 fit
  simp only [State.precheck, found, passes, Bool.not_true, Bool.false_eq_true, if_false]
  rfl

theorem State.precheck_fails (fit : k.ChannelsFit p.content) {reason : AbortReason}
    (gives : k.ScheduleGives p.content.start (some reason)) :
    k.precheck t = (k.setRun .precheck).abortActive reason t := by
  simp only [State.precheck_fit active fit, k.scheduleFailure_of_gives p.content gives]

theorem State.precheck_goesOn (fit : k.ChannelsFit p.content) (gives : k.ScheduleGives p.content.start none)
    (reset : k.RelayHasReset p.content) : k.precheck t = k.setRun (k.goesOn p.content t) := by
  simp only [State.precheck_fit active fit, k.scheduleFailure_of_gives p.content gives,
    (k.relayReset_iff p.content).2 reset, if_true, State.letStart_eq]
  rfl

theorem State.precheck_waits (fit : k.ChannelsFit p.content) (gives : k.ScheduleGives p.content.start none)
    (standing : ¬ k.RelayHasReset p.content) : k.precheck t = k.setRun (.resetWait t k.run.setup.resetWait) := by
  have notReset : k.relayReset p.content.monitored = false :=
    Bool.eq_false_iff.2 fun reset => standing ((k.relayReset_iff p.content).1 reset)
  simp only [State.precheck_fit active fit, k.scheduleFailure_of_gives p.content gives, notReset, Bool.false_eq_true,
    if_false]

omit active

theorem State.precheck_none (none_ : k.activePoint = none) : k.precheck t = k.setRun .precheck := by
  have found : (k.setRun .precheck).activePoint = none := none_
  simp only [State.precheck, found]

/-- PRECHECK neither reads the port nor changes it. -/
theorem State.precheck_withPort (k : State) (t : Tick) (port : Port) :
    State.precheck { k with port := port } t = { k.precheck t with port := port } := by
  cases active : k.activePoint with
  | none =>
    rw [State.precheck_none active, State.precheck_none (k := { k with port := port }) active]
    rfl
  | some e =>
    obtain ⟨h, p⟩ := e
    have aborts : ∀ reason, ((State.setRun { k with port := port } .precheck)).abortActive reason t =
        { (k.setRun .precheck).abortActive reason t with port := port } := fun reason => by
      rw [State.abortActive_waiting (k := k.setRun .precheck) active rfl,
        State.abortActive_waiting (k := State.setRun { k with port := port } .precheck) active rfl]
      rfl
    by_cases fit : k.ChannelsFit p.content
    · rw [State.precheck_fit active fit, State.precheck_fit (k := { k with port := port }) active fit]
      show (match k.scheduleFailure p.content with
        | some reason => _
        | none => if k.relayReset p.content.monitored then _ else _) = _
      cases k.scheduleFailure p.content with
      | some reason => exact aborts reason
      | none =>
        dsimp only
        split
        · rw [State.letStart_eq, State.letStart_eq]
          rfl
        · rfl
    · rw [State.precheck_unfit active fit, State.precheck_unfit (k := { k with port := port }) active fit]
      exact aborts .channelUnfit

theorem State.takeHead_withPort (k : State) (t : Tick) (port : Port) :
    State.takeHead { k with port := port } t = { k.takeHead t with port := port } := by
  cases queue : k.run.queue with
  | nil => simp only [State.takeHead, queue]
  | cons e rest =>
    simp only [State.takeHead, queue]
    exact State.precheck_withPort { k with
      points := k.points.change e.handle TestPoint.take
      run := { k.run with queue := rest, active := some e.handle } } t port

/-- The port after the head is taken is the port before. -/
theorem State.takeHead_port (k : State) (t : Tick) : (k.takeHead t).port = k.port := by
  have same : k.takeHead t = { k.takeHead t with port := k.port } := k.takeHead_withPort t k.port
  rw [same]

end

/-! ## RUN_RELEASE in IDLE -/

theorem TestPoint.AbortedTo.of_taken {p q : TestPoint} {reason : AbortReason} {status : Status}
    {context : Option SearchContext} (a : { p with status := status, context := context }.AbortedTo q reason) :
    p.AbortedTo q reason := by
  obtain ⟨r, posted, verdict, why⟩ := a
  exact ⟨r, ⟨posted.record, posted.unread, posted.fresh, posted.count⟩, verdict, why⟩

/-- An abort in PRECHECK, told of the state before the test point was made ACTIVE and PRECHECK entered (R50, R61). -/
theorem AbortedAt.before_precheck {v u : State} {points : Table TestPoint} {run : RunController} {h : Nat} {p : TestPoint}
    {status : Status} {context : Option SearchContext} {reason : AbortReason} {t : Tick}
    (a : AbortedAt { v with points := points, run := run } u h { p with status := status, context := context } reason t)
    (others : ∀ k, k ≠ h → points.at? k = v.points.at? k)
    (same : ∀ state, { run with active := none, state := state } = { v.run with active := none, state := state })
    (still : v.run.state.isPlaying = false) (waits : run.state.isPlaying = false) : AbortedAt v u h p reason t where
  posted := by
    obtain ⟨q, here, aborted⟩ := a.posted
    exact ⟨q, here, aborted.of_taken⟩
  others k other := (a.others k other).trans (others k other)
  run := by
    have setup := congrArg RunController.setup (same .idle)
    have setup : run.setup = v.run.setup := setup
    rw [a.run, same]
    simp only [setup]
  rest := a.rest
  silenced := a.silenced
  playing play := absurd (still.symm.trans play) (by decide)
  waiting _ := a.waiting waits
  cause := a.cause
  frame := a.frame

/-- With the head of the queue taken, before its PRECHECK (R48). -/
def State.headTaken (s : State) (e : QueueEntry) (rest : List QueueEntry) : State :=
  { s with points := s.points.change e.handle TestPoint.take
           run := { s.run with hold := false, queue := rest, active := some e.handle } }

section
variable {s : State} {e : QueueEntry} {rest : List QueueEntry} {p : TestPoint}

theorem exec_runRelease_idle (idle : s.run.state = .idle) (held : s.run.hold = true) :
    exec .runRelease s = .next ((State.takeHead { s with run := { s.run with hold := false } } s.tick).accept []) := by
  show execRunRelease s = _
  simp only [execRunRelease, held, if_true, State.released, idle]

theorem exec_runRelease_head (idle : s.run.state = .idle) (held : s.run.hold = true) (queue : s.run.queue = e :: rest) :
    exec .runRelease s = .next (((s.headTaken e rest).precheck s.tick).accept []) := by
  rw [exec_runRelease_idle idle held]
  simp only [State.takeHead, queue]
  rfl

theorem State.headTaken_here (present : s.points.at? e.handle = some p) :
    (s.headTaken e rest).points.at? e.handle = some p.take := by
  show (s.points.change e.handle TestPoint.take).at? e.handle = _
  rw [Table.at?_change, if_pos rfl, present]
  rfl

theorem State.headTaken_others (k : Nat) (other : k ≠ e.handle) :
    (s.headTaken e rest).points.at? k = s.points.at? k := by
  show (s.points.change e.handle TestPoint.take).at? k = _
  rw [Table.at?_change, if_neg other.symm]

theorem State.headTaken_activePoint (present : s.points.at? e.handle = some p) :
    (s.headTaken e rest).activePoint = some (e.handle, p.take) :=
  (State.activePoint_eq_some _ _ _).2 ⟨rfl, State.headTaken_here present⟩

end

/-- Settles O22: the head taken makes its PRECHECK, each exit of which is one of PRECHECK's rules. -/
theorem releaseTakesTheHeadThroughPrecheck : Obligations.ReleaseTakesTheHeadThroughPrecheck := by
  intro s e rest p idle held queue present v taken stands aborted
  have run := exec_runRelease_head idle held queue
  have active := State.headTaken_activePoint (rest := rest) present
  have still : s.run.state.isPlaying = false := by rw [idle]; rfl
  have aborts : ∀ reason, (s.headTaken e rest).precheck s.tick =
        ((s.headTaken e rest).setRun .precheck).abortActive reason s.tick →
      ∃ u, exec .runRelease s = .next u ∧ aborted reason u := fun reason result => by
    rw [run, result]
    have here := State.abortActive_abortedAt (s := (s.headTaken e rest).setRun .precheck) active reason
      (t := s.tick) rfl
    have before := here.before_precheck (v := v) (State.headTaken_others (rest := rest)) (fun _ => rfl) still rfl
    refine ⟨_, rfl, before.answered 0 [], ?_⟩
    exact congrArg (Port.answered · 0 []) (State.abortActive_port_waiting (by rfl) reason s.tick)
  have goes : ∀ state, (s.headTaken e rest).precheck s.tick = (s.headTaken e rest).setRun state →
      ∃ u, exec .runRelease s = .next u ∧ stands state u := fun state result => by
    rw [run, result]
    exact ⟨_, rfl, rfl, State.headTaken_here (rest := rest) present, State.headTaken_others (rest := rest)⟩
  exact ⟨fun unfit => aborts _ (State.precheck_unfit active unfit),
    fun fit => ⟨fun reason gives => aborts reason (State.precheck_fails active fit gives),
      fun gives => ⟨fun reset => goes _ (State.precheck_goesOn (p := p.take) active fit gives reset),
        fun standing => goes _ (State.precheck_waits (p := p.take) active fit gives standing)⟩⟩⟩

end Sys2Proof.Machine

/-! The queue requests and the end of REST (R42 to R45, R48, R59, R142, R145). -/

namespace Sys2Proof.Machine

/-! ## Placing and removing entries -/

theorem takeWhile_marked_append {ms us : List QueueEntry} (marked : ∀ e ∈ ms, e.marked = true)
    (unmarked : ∀ e ∈ us, e.marked = false) : (ms ++ us).takeWhile (fun e => e.marked) = ms := by
  rw [List.takeWhile_append_of_pos marked]
  cases us with
  | nil => simp
  | cons e us => simp [unmarked e List.mem_cons_self]

/-- With an entry placed, before the head is taken (R42, R43). -/
def State.placed (s : State) (h : Nat) (queue : List QueueEntry) : State :=
  { s with points := s.points.change h fun p => { p with status := .queued }
           run := { s.run with queue := queue } }

/-- With the hold flag set, or clear. -/
def State.held (s : State) (hold : Bool) : State := { s with run := { s.run with hold := hold } }

theorem State.held_hold (s : State) : s.held s.run.hold = s := rfl

section
variable {s : State} {h : Nat} {p : TestPoint} (idle : p.status = .idle) (room : s.run.queue.length < 32)
variable (queue : List QueueEntry) (position : Nat)

/-- The head taken by RUN_RELEASE, whatever the port holds. -/
theorem exec_runRelease_takesHead (s : State) (inIdle : s.run.state = .idle) (port : Port) :
    ∃ w, exec .runRelease (s.held true) = .next w ∧
      { w with port := port } = { (s.held false).takeHead s.tick with port := port } :=
  ⟨_, exec_runRelease_idle inIdle rfl, rfl⟩

/-- What a port holds plays no part in the taking of the head. -/
theorem State.takeHead_eq_withPort (s : State) (t : Tick) (port : Port) :
    s.takeHead t = { State.takeHead { s with port := port } t with port := s.port } := by
  rw [s.takeHead_withPort t port]
  exact s.takeHead_withPort t s.port

include idle room

theorem State.place_eq :
    s.place h queue position p = ((s.placed h queue).takeIfIdle s.tick).accept (bytesOf 1 position) := by
  have room : ¬ Config.queueEntries ≤ s.run.queue.length := Nat.not_le.2 room
  rw [State.place, if_neg (not_not_intro idle), if_neg room]
  rfl

/-- While held, or out of IDLE, nothing follows the placing. -/
theorem State.place_stays (stays : s.run.hold = true ∨ s.run.state ≠ .idle) :
    s.place h queue position p = (s.placed h queue).accept [BitVec.ofNat 8 position] := by
  rw [State.place_eq idle room, bytesOf_one, State.takeIfIdle, if_neg]
  rintro ⟨inIdle, unheld⟩
  rcases stays with held | out
  · exact absurd (held.symm.trans unheld) (by decide)
  · exact out inIdle

/-- In IDLE with the hold flag clear the head is taken as RUN_RELEASE takes it, the placing made while held. -/
theorem State.place_takes (unheld : s.run.hold = false) (inIdle : s.run.state = .idle) :
    let v := (s.held true).place h queue position p
    ∃ w, exec .runRelease v = .next w ∧ s.place h queue position p = { w with port := v.port } := by
  intro v
  have placed : v = ((s.held true).placed h queue).accept [BitVec.ofNat 8 position] :=
    State.place_stays (s := s.held true) idle room queue position (.inl rfl)
  have clear : (s.held false).placed h queue = s.placed h queue := by rw [← unheld, State.held_hold]
  have taken : s.place h queue position p =
      ((s.placed h queue).takeHead s.tick).accept [BitVec.ofNat 8 position] := by
    rw [State.place_eq idle room, bytesOf_one, State.takeIfIdle, if_pos ⟨inIdle, unheld⟩]
  obtain ⟨w, run, result⟩ := exec_runRelease_takesHead v (by rw [placed]; exact inIdle) v.port
  refine ⟨w, ?_, ?_⟩
  · rw [← run, placed]
    rfl
  · have head := (s.placed h queue).takeHead_eq_withPort s.tick v.port
    have same : v.held false = { s.placed h queue with port := v.port } := by
      rw [← clear, placed]
      rfl
    rw [result, same, taken, head, placed]
    rfl

end

section
variable {s : State} {h : Nat} {p : TestPoint}

theorem Table.at?_change_here {α : Type} {t : Table α} {x : α} (present : t.at? h = some x) (f : α → α) :
    (t.change h f).at? h = some (f x) := by
  rw [Table.at?_change, if_pos rfl, present]
  rfl

theorem Table.at?_change_others {α : Type} (t : Table α) (f : α → α) (k : Nat) (other : k ≠ h) :
    (t.change h f).at? k = t.at? k := by rw [Table.at?_change, if_neg other.symm]

theorem TestPoint.abortSuspended_posted (reason : AbortReason) {c : SearchContext} {k : SearchParams}
    (search : p.content.kind = .search k) (context : p.context = some c) :
    ∃ r, p.Posted (p.abortSuspended reason) r ∧ r.verdict = .aborted ∧ r.reason = some reason ∧ r.operated = [] ∧
      r.measured = none ∧
      r.search = some { lower := c.lower, upper := c.upper, boundary := none, shotsUsed := c.shotsUsed } := by
  simp only [TestPoint.abortSuspended, search, context, Option.getD_some]
  exact ⟨_, TestPoint.post_posted (searchAbort reason c) p, rfl, rfl, rfl, rfl, rfl⟩

end

/-- Settles O21: the placing and the removing of an entry, and RUN_RELEASE's taking of the head after a placing. -/
theorem queueRequestsMoveEntries : Obligations.QueueRequestsMoveEntries := by
  constructor
  · intro s h p first last present idle room placed
    refine ⟨fun stays => ⟨?_, fun ms us queue marked unmarked => ?_⟩, fun unheld inIdle => ?_⟩
    · refine ⟨_, exec_of_present first last present (exec_queueAdd s h), ?_⟩
      rw [State.place_stays idle room _ _ stays]
      exact ⟨rfl, Table.at?_change_here present _, Table.at?_change_others s.points _⟩
    · refine ⟨_, exec_of_present first last present (exec_queueFirst s h), ?_⟩
      rw [State.place_stays idle room _ _ stays, queue, insertAfterMarked_append marked unmarked,
        takeWhile_marked_append marked unmarked]
      exact ⟨rfl, Table.at?_change_here present _, Table.at?_change_others s.points _⟩
    · simp only [List.forall_mem_cons, List.not_mem_nil, false_implies, implies_true, and_true]
      refine ⟨?_, ?_⟩
      · rw [exec_of_present first last present (exec_queueAdd s h)]
        obtain ⟨w, run, result⟩ := State.place_takes (h := h) idle room _ _ unheld inIdle
        exact ⟨_, w, exec_of_present first last present (exec_queueAdd (s.held true) h), run, congrArg _ result⟩
      · rw [exec_of_present first last present (exec_queueFirst s h)]
        obtain ⟨w, run, result⟩ := State.place_takes (h := h) idle room _ _ unheld inIdle
        exact ⟨_, w, exec_of_present first last present (exec_queueFirst (s.held true) h), run, congrArg _ result⟩
  · intro s h p first last present removed
    refine ⟨fun queued => ?_, fun k c suspended search context => ?_⟩
    · refine ⟨_, exec_of_present first last present (exec_queueRemove s h), ?_⟩
      simp only [State.removeEntry, queued]
      exact ⟨⟨rfl, Table.at?_change_others s.points _⟩, Table.at?_change_here present _⟩
    · obtain ⟨r, holds⟩ := TestPoint.abortSuspended_posted .removed search context
      refine ⟨_, p.abortSuspended .removed, r, exec_of_present first last present (exec_queueRemove s h), ?_⟩
      simp only [State.removeEntry, suspended]
      exact ⟨⟨rfl, Table.at?_change_others s.points _⟩, Table.at?_change_here present _, holds⟩

end Sys2Proof.Machine

/-! The end of REST (R45, R48, R59, R140, R142). -/

namespace Sys2Proof.Machine

/-- In IDLE with no test point ACTIVE, the hold flag clear. -/
def State.idled (s : State) : State := { s with run := { s.run with state := .idle, active := none, hold := false } }

section
variable {s : State} {t : Tick}

/-- IDLE entered with a head to take. -/
theorem State.enterIdle_takes (none_ : s.run.active = none) (waiting : s.run.queue ≠ []) (unheld : s.run.hold = false) :
    s.enterIdle t = s.idled.takeHead t := by
  have same : s.setRun .idle = s.idled := by
    unfold State.idled State.setRun
    rw [← unheld, ← none_]
  have waiting : ¬ s.idled.run.queue = [] := waiting
  simp only [State.enterIdle, same, waiting, if_false]
  rfl

/-- IDLE entered, the head then taken as RUN_RELEASE takes it in IDLE. -/
theorem State.enterIdle_takesFrom (none_ : s.run.active = none) (waiting : s.run.queue ≠ [])
    (unheld : s.run.hold = false) (now : s.tick = t) (port : Port) :
    ∃ w, exec .runRelease { s with run := { s.run with state := .idle, active := none, hold := true } } = .next w ∧
      { s.enterIdle t with port := port } = { w with port := port } := by
  obtain ⟨w, run, result⟩ := exec_runRelease_takesHead s.idled rfl port
  refine ⟨w, run, ?_⟩
  rw [State.enterIdle_takes none_ waiting unheld, result, ← now]
  rfl

theorem State.enterIdle_port (waiting : s.run.queue ≠ []) : (s.enterIdle t).port = s.port := by
  have waiting : ¬ (s.setRun .idle).run.queue = [] := waiting
  simp only [State.enterIdle, waiting, if_false]
  split
  · rfl
  · exact State.takeHead_port _ t

end

/-! ## The end-of-REST decision of a search -/

section
variable {s : State} {h : Nat} {p : TestPoint} {k : SearchParams} {c : SearchContext} {t : Tick}
variable (search : p.content.kind = .search k)

theorem any_marked_iff (queue : List QueueEntry) :
    queue.any (fun e => e.marked) = false ↔ ∀ e ∈ queue, e.marked = false := by simp

include search

/-- No marked entry waits, or the queue has no room for the search: PRECHECK for its next shot. -/
theorem State.decideSearch_precheck
    (stays : (∀ e ∈ s.run.queue, e.marked = false) ∨ k.policy = .suspend ∧ 32 ≤ s.run.queue.length) :
    s.decideSearch h p t = s.precheck t := by
  unfold State.decideSearch
  split
  · rename_i marked
    rcases stays with none_ | ⟨suspend, full⟩
    · rw [(any_marked_iff _).2 none_] at marked
      cases marked
    · have full : ¬ s.run.queue.length < Config.queueEntries := Nat.not_lt.2 full
      simp only [search, suspend, full, if_false]
  · rfl

/-- A marked entry waits and the search is suspended behind the marked ones. -/
theorem State.decideSearch_suspends (marked : s.run.queue.any (fun e => e.marked) = true)
    (suspend : k.policy = .suspend) (room : s.run.queue.length < 32) :
    s.decideSearch h p t = (s.suspendSearch h).enterIdle t := by
  have room : s.run.queue.length < Config.queueEntries := room
  simp only [State.decideSearch, marked, search, suspend, room, if_true]

/-- A marked entry waits and the search is ended with PREEMPTED. -/
theorem State.decideSearch_ends (marked : s.run.queue.any (fun e => e.marked) = true) (abort : k.policy = .abort)
    (context : p.context = some c) :
    s.decideSearch h p t = (s.postActive h (searchAbort .preempted c)).enterIdle t := by
  simp only [State.decideSearch, marked, search, abort, context, if_true, Option.getD_some]

omit search

theorem State.precheck_port (s : State) (t : Tick) : (s.precheck t).port = s.port := by
  have same : s.precheck t = { s.precheck t with port := s.port } := s.precheck_withPort t s.port
  rw [same]

theorem State.decideSearch_port (s : State) (h : Nat) (p : TestPoint) (t : Tick) :
    (s.decideSearch h p t).port = s.port := by
  unfold State.decideSearch
  split
  · rename_i marked
    have waiting : s.run.queue ≠ [] := fun empty => by simp [empty] at marked
    split
    · split
      · split
        · exact State.enterIdle_port (s := s.suspendSearch h) (by simp [State.suspendSearch, insertAfterMarked])
        · exact s.precheck_port t
      · exact State.enterIdle_port (s := s.postActive h _) waiting
    · exact s.precheck_port t
  · exact s.precheck_port t

end

/-- An abort's REST with another port of the same CHANNEL cause. -/
theorem AbortedAt.withPort {s u : State} {h : Nat} {p : TestPoint} {reason : AbortReason} {t : Tick}
    (a : AbortedAt s u h p reason t) {port : Port} (same : port.channel = u.port.channel) :
    AbortedAt s { u with port := port } h p reason t :=
  ⟨a.posted, a.others, a.run, ⟨a.rest.snapshot, a.rest.outputs, a.rest.channels⟩, a.silenced,
    fun play => ⟨(a.playing play).channels, (a.playing play).inputs⟩, a.waiting,
    (Eq.to_iff (congrArg (· = true) same)).trans a.cause, congrArg (fun w => { w with port := port }) a.frame⟩

/-- The state in which the end of REST is decided, the hold flag clear. -/
def State.deciding (s : State) (t : Tick) (g : Generator) : State :=
  { s with tick := t, gen := g, run := { s.run with hold := false } }

section
variable {s : State} {h : Nat} {p : TestPoint} {k : SearchParams} {c : SearchContext} {t : Tick} {g : Generator}
variable {i : Instr} {port : Port} (active : s.activePoint = some (h, p))
variable (run : exec i s = .next { (s.deciding t g).decideSearch h p t with port := port })
include active run

/-- The search goes on with its next shot (R59, R142). -/
theorem decideSearch_goesOn (search : p.content.kind = .search k) (still : s.run.state.isPlaying = false)
    (same : port.channel = s.port.channel)
    (stays : (∀ e ∈ s.run.queue, e.marked = false) ∨ k.policy = .suspend ∧ 32 ≤ s.run.queue.length) :
    (¬ s.ChannelsFit p.content →
      ∃ u, exec i s = .next u ∧ AbortedAt (s.deciding t g) u h p .channelUnfit t ∧ u.port = port) ∧
    (s.ChannelsFit p.content → s.ScheduleGives p.content.start none →
      (s.RelayHasReset p.content → exec i s = .next { s.deciding t g with
        run := { (s.deciding t g).run with state := s.goesOn p.content t }, port := port }) ∧
      (¬ s.RelayHasReset p.content → exec i s = .next { s.deciding t g with
        run := { (s.deciding t g).run with state := .resetWait t s.run.setup.resetWait }, port := port })) := by
  have found : (s.deciding t g).activePoint = some (h, p) := active
  have result := State.decideSearch_precheck (s := s.deciding t g) (h := h) (t := t) search stays
  rw [result] at run
  refine ⟨fun unfit => ?_, fun fit gives => ⟨fun reset => ?_, fun standing => ?_⟩⟩
  · rw [State.precheck_unfit found unfit] at run
    have aborted := State.abortActive_abortedAt (s := (s.deciding t g).setRun .precheck) found .channelUnfit (t := t) rfl
    have before := aborted.before_precheck (v := s.deciding t g) (p := p) (fun _ _ => rfl) (fun _ => rfl) still rfl
    have kept := State.abortActive_port_waiting (s := (s.deciding t g).setRun .precheck) rfl .channelUnfit t
    exact ⟨_, run, before.withPort (same.trans (congrArg Port.channel kept).symm), rfl⟩
  · rw [State.precheck_goesOn found fit gives reset] at run
    exact run
  · rw [State.precheck_waits found fit gives standing] at run
    exact run

variable {m : QueueEntry} {ms us : List QueueEntry} (queue : s.run.queue = m :: ms ++ us)
variable (marked : ∀ e ∈ m :: ms, e.marked = true)
include queue marked

omit active run in
theorem marked_waits : (s.deciding t g).run.queue.any (fun e => e.marked) = true := by
  show s.run.queue.any (fun e => e.marked) = true
  rw [queue]
  simp [marked m]

/-- The search is suspended and the head taken (R45, R142). -/
theorem decideSearch_suspended (search : p.content.kind = .search k) (unmarked : ∀ e ∈ us, e.marked = false)
    (suspend : k.policy = .suspend) (room : s.run.queue.length < 32) :
    ∃ points, (∃ w, exec .runRelease { s.deciding t g with
        points := points
        run := { (s.deciding t g).run with
          queue := m :: ms ++ { handle := h, marked := false } :: us, state := .idle, active := none, hold := true } } =
          .next w ∧ exec i s = .next { w with port := port }) ∧
      Table.at? points h = some { p with status := .suspended } ∧ ∀ n, n ≠ h → Table.at? points n = s.points.at? n := by
  have present := ((s.activePoint_eq_some h p).1 active).2
  have inserted : insertAfterMarked s.run.queue { handle := h, marked := false } =
      m :: ms ++ { handle := h, marked := false } :: us := by
    rw [queue]
    exact insertAfterMarked_append marked unmarked _
  rw [State.decideSearch_suspends (s := s.deciding t g) search (marked_waits queue marked) suspend room] at run
  obtain ⟨w, takes, result⟩ := State.enterIdle_takesFrom (s := (s.deciding t g).suspendSearch h) (t := t) rfl
    (by show insertAfterMarked s.run.queue _ ≠ []; rw [inserted]; simp) rfl rfl port
  refine ⟨s.points.change h fun p => { p with status := .suspended }, ⟨w, ?_, run.trans (congrArg _ result)⟩,
    Table.at?_change_here present _, Table.at?_change_others s.points _⟩
  rw [← inserted]
  exact takes

/-- The search is ended with PREEMPTED and the head taken (R142). -/
theorem decideSearch_ended (search : p.content.kind = .search k) (context : p.context = some c)
    (abort : k.policy = .abort) :
    ∃ points q r, (∃ w, exec .runRelease { s.deciding t g with
        points := points, shot := { s.shot with working := none }
        run := { (s.deciding t g).run with state := .idle, active := none, hold := true } } = .next w ∧
          exec i s = .next { w with port := port }) ∧
      Table.at? points h = some q ∧ (∀ n, n ≠ h → Table.at? points n = s.points.at? n) ∧ p.Posted q r ∧
      r.verdict = .aborted ∧ r.reason = some .preempted ∧ r.operated = [] ∧
      r.search = some { lower := c.lower, upper := c.upper, boundary := none, shotsUsed := c.shotsUsed } := by
  rw [State.decideSearch_ends (s := s.deciding t g) search (marked_waits queue marked) abort context] at run
  obtain ⟨w, takes, result⟩ := State.enterIdle_takesFrom
    (s := (s.deciding t g).postActive h (searchAbort .preempted c)) (t := t) rfl
    (by show s.run.queue ≠ []; rw [queue]; simp) rfl rfl port
  exact ⟨_, _, _, ⟨w, takes, run.trans (congrArg _ result)⟩, State.postActive_here active _,
    State.postActive_others s h _, TestPoint.post_posted (searchAbort .preempted c) p, rfl, rfl, rfl, rfl⟩

end

/-! ## REST_END and RUN_RELEASE -/

section
variable {s : State} {t since : Tick} {interval : Nat} {fault : Option Tick}

theorem exec_restEnd (ahead : s.instantAhead t) (rest : s.run.state = .rest since interval false fault)
    (ended : Tick.reached (since + BitVec.ofNat 48 (1000 * interval)) t = true) :
    exec (.restEnd t) s = .next ((s.stepped t).endRest since interval fault t) := by
  refine congrArg Host.Outcome.next ((State.onInstant_of ahead ?_).trans ?_)
  · simp only [State.restOver, rest, afterMillis, ended]
  · have rest : (s.stepped t).run.state = .rest since interval false fault := rest
    simp only [State.restEnds, rest]

theorem State.stepped_eq_deciding (unheld : s.run.hold = false) : s.stepped t = s.deciding t (s.gen.arrive t) := by
  unfold State.stepped State.deciding
  rw [← unheld]

theorem exec_restEnd_none (ahead : s.instantAhead t) (rest : s.run.state = .rest since interval false fault)
    (ended : Tick.reached (since + BitVec.ofNat 48 (1000 * interval)) t = true) (none_ : s.run.active = none) :
    exec (.restEnd t) s = .next ((s.stepped t).enterIdle t) := by
  have found : (s.stepped t).activePoint = none := by
    have none_ : (s.stepped t).run.active = none := none_
    simp only [State.activePoint, none_]
  rw [exec_restEnd ahead rest ended]
  simp only [State.endRest, found]

theorem exec_restEnd_decides (ahead : s.instantAhead t) (rest : s.run.state = .rest since interval false fault)
    (ended : Tick.reached (since + BitVec.ofNat 48 (1000 * interval)) t = true) {h : Nat} {p : TestPoint}
    (active : s.activePoint = some (h, p)) (unheld : s.run.hold = false) :
    exec (.restEnd t) s =
      .next { (s.deciding t (s.gen.arrive t)).decideSearch h p t with port := s.port } := by
  have found : (s.deciding t (s.gen.arrive t)).activePoint = some (h, p) := active
  have clear : (s.deciding t (s.gen.arrive t)).run.hold = false := rfl
  have port := (s.deciding t (s.gen.arrive t)).decideSearch_port h p t
  rw [exec_restEnd ahead rest ended, State.stepped_eq_deciding unheld]
  simp only [State.endRest, found, clear, Bool.false_eq_true, if_false]
  refine congrArg Host.Outcome.next ?_
  show _ = { (s.deciding t (s.gen.arrive t)).decideSearch h p t with port := (s.deciding t (s.gen.arrive t)).port }
  rw [← port]

theorem exec_runRelease_decides (rest : s.run.state = .rest since interval true fault) (held : s.run.hold = true)
    {h : Nat} {p : TestPoint} (active : s.activePoint = some (h, p)) :
    exec .runRelease s =
      .next { (s.deciding s.tick s.gen).decideSearch h p s.tick with port := s.port.answered 0 [] } := by
  have found : (s.deciding s.tick s.gen).activePoint = some (h, p) := active
  have released : (s.deciding s.tick s.gen).released = (s.deciding s.tick s.gen).decideSearch h p s.tick := by
    have rest : (s.deciding s.tick s.gen).run.state = .rest since interval true fault := rest
    simp only [State.released, rest, found]
    rfl
  have port := (s.deciding s.tick s.gen).decideSearch_port h p s.tick
  show execRunRelease s = _
  simp only [execRunRelease, held, if_true]
  refine congrArg Host.Outcome.next ?_
  show (State.released (s.deciding s.tick s.gen)).accept [] = _
  rw [released]
  exact congrArg (fun port : Port => { (s.deciding s.tick s.gen).decideSearch h p s.tick with
    port := port.answered 0 [] }) port

end

/-- Settles O46: the end of REST without a search, held, and through the decision that RUN_RELEASE makes as well. -/
theorem restEndIdlesYieldsOrGoesOn : Obligations.RestEndIdlesYieldsOrGoesOn := by
  unfold Obligations.RestEndIdlesYieldsOrGoesOn
  intro takesFrom decides
  have rule : ∀ (i : Instr) (s : State) (t : Tick) (g : Generator) (answer : Port → Port),
      s.run.state.isPlaying = false → (∀ port, (answer port).channel = port.channel) →
      (∀ h p, s.activePoint = some (h, p) →
        exec i s = .next { (s.deciding t g).decideSearch h p t with port := answer s.port }) →
      decides i s (s.deciding t g) t answer := by
    intro i s t g answer still same run h p k c active search context
    have run := run h p active
    refine ⟨decideSearch_goesOn active run search still (same s.port), fun m ms us queue marked unmarked => ⟨?_, ?_⟩⟩
    · exact decideSearch_suspended active run queue marked search unmarked
    · exact decideSearch_ended active run queue marked search context
  constructor
  · intro s t since interval fault ahead rest ended v
    refine ⟨fun none_ => ?_, fun h p active held => ?_, fun unheld => ?_⟩
    · have run := exec_restEnd_none ahead rest ended none_
      refine ⟨fun empty => ?_, fun waiting held => ?_, fun waiting unheld => ?_⟩
      · rw [run]
        have empty : ((s.stepped t).setRun .idle).run.queue = [] := empty
        simp only [State.enterIdle, empty, if_true]
        rfl
      · rw [run]
        have waiting : ¬ ((s.stepped t).setRun .idle).run.queue = [] := waiting
        have held : ((s.stepped t).setRun .idle).run.hold = true := held
        simp only [State.enterIdle, waiting, held, if_false, if_true]
        rfl
      · obtain ⟨w, takes, result⟩ := State.enterIdle_takesFrom (s := s.stepped t) none_ waiting unheld rfl s.port
        refine ⟨w, takes, run.trans (congrArg Host.Outcome.next ?_)⟩
        have port : ((s.stepped t).enterIdle t).port = s.port := State.enterIdle_port (s := s.stepped t) waiting
        have same : (s.stepped t).enterIdle t = { (s.stepped t).enterIdle t with port := s.port } := by rw [← port]
        exact same.trans result
    · have found : (s.stepped t).activePoint = some (h, p) := active
      have held : (s.stepped t).run.hold = true := held
      rw [exec_restEnd ahead rest ended]
      simp only [State.endRest, found, held, if_true]
      rfl
    · have decided := rule (.restEnd t) s t (s.gen.arrive t) id (by rw [rest]; rfl) (fun _ => rfl) fun h p active =>
        exec_restEnd_decides ahead rest ended active unheld
      rw [← State.stepped_eq_deciding unheld] at decided
      exact decided
  · intro s since interval fault rest held
    exact rule .runRelease s s.tick s.gen (fun port => port.answered 0 []) (by rw [rest]; rfl) (fun _ => rfl) fun h p active =>
      exec_runRelease_decides rest held active

end Sys2Proof.Machine

/-! The input samples: one input's sample and a change into INACTIVE (R52, R96 to R104, R109). -/

namespace Sys2Proof.Machine

/-! ## One input's sample -/

/-- The start instant, inside a shot's recording window (R102). -/
def State.window? (s : State) : Option Tick := if s.run.state.started then some s.shot.started else none

/-- One input's sample taken, the trip criterion apart (R99 to R104). -/
def State.sampled (s : State) (t : Tick) (n : Inp) (level : Bool) : State :=
  { s with inputs := s.inputs.update n fun i => i.sample t level s.window? }

/-- The table entry of an input after a change, inside the recording window alone (R102, R103). -/
def State.recorded (s : State) (e : TableEntry) (change : InputChange) : TableEntry :=
  if s.run.state.started then e.record s.shot.started change else e

section
variable {s : State} {t : Tick} {n : Inp} {level : Bool}

theorem State.takeSample_fresh (fresh : (s.inputs.get n).sampledAt ≠ some t) :
    s.takeSample t n level = (s.sampled t n level).updateCriterion n t (s.inputs.get n).entry := by
  unfold State.takeSample
  rw [if_neg fresh]
  rfl

theorem State.sampled_others (m : Inp) (other : m ≠ n) : (s.sampled t n level).inputs.get m = s.inputs.get m := by
  simp [State.sampled, PerInput.get_update, other.symm]

theorem State.sampled_get (s : State) (t : Tick) (n : Inp) (level : Bool) :
    (s.sampled t n level).inputs.get n = (s.inputs.get n).sample t level s.window? := by
  simp [State.sampled, PerInput.get_update]

/-- The record of the input sampled, by what the qualification machine gives. -/
theorem State.sampled_here {q : Qualification} {change : InputChange}
    (step : qualify (s.inputs.get n).config.samples t level (s.inputs.get n).qualification = (q, change)) :
    (s.sampled t n level).inputs.get n = { s.inputs.get n with
      wetMemory := (s.inputs.get n).memoryAfter level
      qualification := q
      sensed := level
      sampledAt := some t
      entry := s.recorded (s.inputs.get n).entry change } := by
  rw [State.sampled_get]
  unfold Input.sample State.window? State.recorded
  rw [step]
  cases s.run.state.started <;> rfl

/-- Without a first operate the criterion stays. -/
theorem State.updateCriterion_same {before : TableEntry} (same : (s.inputs.get n).entry.operate = before.operate) :
    s.updateCriterion n t before = s := by
  unfold State.updateCriterion State.operateTick
  rw [same]
  cases s.activePoint <;> cases before.operate <;> rfl

theorem Input.memoryAfter_raw (i : Input) (raw : Bool) :
    i.memoryAfter (raw != i.config.inverted) = if i.config.mode = .dry then i.wetMemory else raw := by
  unfold Input.memoryAfter
  cases i.config.mode with
  | dry => rfl
  | wet on off => cases raw <;> cases i.config.inverted <;> rfl

theorem Input.rawLevel_eq {i : Input} {closed raw : Bool} {volts : BitVec 9} (dry : i.config.mode = .dry → raw = closed)
    (wet : ∀ on off, i.config.mode = .wet on off → raw =
      if on ≤ min volts.toNat 300 then true else if min volts.toNat 300 ≤ off then false else i.wetMemory) :
    i.rawLevel closed volts = raw := by
  unfold Input.rawLevel
  cases mode : i.config.mode with
  | dry => exact (dry mode).symm
  | wet on off => exact (wet on off mode).symm

end

/-! ## Changes into INACTIVE -/

section
variable {s w : State} {t : Tick} {n : Inp}

theorem becameInactive_of_same {m : Inp} (same : w.inputs.get m = s.inputs.get m) : becameInactive s w m = false := by
  simp [becameInactive, same]

theorem State.reportReleases_none (none_ : ∀ m, becameInactive s w m = false) : State.reportReleases s w t = w := by
  unfold State.reportReleases
  cases w.activePoint with
  | none => rfl
  | some e => simp [none_]

theorem State.judgeRelayReset_still (still : ∀ a b, w.run.state ≠ .resetWait a b) : w.judgeRelayReset t = w := by
  unfold State.judgeRelayReset
  split
  · exact absurd ‹_› (still _ _)
  · rfl

/-- Out of RESET_WAIT nothing follows a change into INACTIVE. -/
theorem State.reportReleases_still (still : ∀ a b, w.run.state ≠ .resetWait a b) : State.reportReleases s w t = w := by
  unfold State.reportReleases
  rw [State.judgeRelayReset_still still]
  split
  · split <;> rfl
  · rfl

section
variable {h : Nat} {p : TestPoint} (active : w.activePoint = some (h, p))
include active

theorem State.reportReleases_unmonitored (others : ∀ m, m ≠ n → w.inputs.get m = s.inputs.get m)
    (unmonitored : n.isIn p.content.monitored = false) : State.reportReleases s w t = w := by
  have none_ : ∀ m : Inp, (m.isIn p.content.monitored && becameInactive s w m) = false := fun m => by
    by_cases same : m = n
    · simp [same, unmonitored]
    · simp [becameInactive_of_same (others m same)]
  unfold State.reportReleases
  simp [active, none_]

theorem State.reportReleases_monitored (monitored : n.isIn p.content.monitored = true)
    (inactive : becameInactive s w n = true) : State.reportReleases s w t = w.judgeRelayReset t := by
  have found : (Inp.all.any fun m => m.isIn p.content.monitored && becameInactive s w m) = true :=
    (Inp.any_all _).2 ⟨n, by simp [monitored, inactive]⟩
  unfold State.reportReleases
  simp only [active, found, if_true]

variable {since : Tick} {limit : Nat} (waiting : w.run.state = .resetWait since limit)
include waiting

theorem State.judgeRelayReset_standing (standing : ¬ w.RelayHasReset p.content) : w.judgeRelayReset t = w := by
  have notReset : w.relayReset p.content.monitored = false :=
    Bool.eq_false_iff.2 fun reset => standing ((w.relayReset_iff p.content).1 reset)
  simp only [State.judgeRelayReset, waiting, active, notReset, Bool.false_eq_true, if_false]

theorem State.judgeRelayReset_goesOn (reset : w.RelayHasReset p.content) (gives : w.ScheduleGives p.content.start none) :
    w.judgeRelayReset t = w.setRun (w.goesOn p.content t) := by
  simp only [State.judgeRelayReset, waiting, active, (w.relayReset_iff p.content).2 reset, if_true,
    w.scheduleFailure_of_gives p.content gives, State.letStart_eq]

theorem State.judgeRelayReset_fails (reset : w.RelayHasReset p.content) {reason : AbortReason}
    (gives : w.ScheduleGives p.content.start (some reason)) : w.judgeRelayReset t = w.abortActive reason t := by
  simp only [State.judgeRelayReset, waiting, active, (w.relayReset_iff p.content).2 reset, if_true,
    w.scheduleFailure_of_gives p.content gives]

end

end

/-- The judgement during RESET_WAIT leaves the tick and the inputs. -/
theorem State.judgeRelayReset_frame (w : State) (t : Tick) :
    (w.judgeRelayReset t).tick = w.tick ∧ (w.judgeRelayReset t).inputs = w.inputs := by
  unfold State.judgeRelayReset
  split
  · rename_i waiting active
    have still : w.run.state.isPlaying = false := by rw [waiting]; rfl
    split
    · split
      · rw [State.abortActive_waiting active still]
        exact ⟨rfl, rfl⟩
      · rw [State.letStart_eq]
        exact ⟨rfl, rfl⟩
    · exact ⟨rfl, rfl⟩
  · exact ⟨rfl, rfl⟩

theorem State.reportReleases_frame (s w : State) (t : Tick) :
    (State.reportReleases s w t).tick = w.tick ∧ (State.reportReleases s w t).inputs = w.inputs := by
  unfold State.reportReleases
  split
  · split
    · exact w.judgeRelayReset_frame t
    · exact ⟨rfl, rfl⟩
  · exact ⟨rfl, rfl⟩

/-- The end of RESET_WAIT on a change of one input into INACTIVE, from the state whose inputs have been sampled (R52,
R109). -/
theorem State.release_endsWait {s : State} {t : Tick} {n : Inp} {inputs : PerInput Input}
    (others : ∀ m, m ≠ n → inputs.get m = s.inputs.get m)
    (inactive : becameInactive s { s with inputs := inputs } n = true) {since : Tick} {limit h : Nat} {p : TestPoint}
    (waiting : s.run.state = .resetWait since limit) (active : s.activePoint = some (h, p)) :
    let w := { s with tick := t, inputs := inputs }
    let u := State.reportReleases { s with tick := t } w t
    u.inputs = inputs ∧
    (n.isIn p.content.monitored = false ∨ ¬ u.RelayHasReset p.content → u = { s with tick := t, inputs := u.inputs }) ∧
    (n.isIn p.content.monitored = true → u.RelayHasReset p.content →
      (s.ScheduleGives p.content.start none →
        u = { s with tick := t, inputs := u.inputs, run := { s.run with state := s.goesOn p.content t } }) ∧
      (∀ reason, s.ScheduleGives p.content.start (some reason) →
        AbortedAt { s with inputs := u.inputs } u h p reason t ∧ u.port = s.port)) := by
  intro w u
  have inputs_ : u.inputs = inputs := (State.reportReleases_frame _ w t).2
  have reset_iff : u.RelayHasReset p.content ↔ w.RelayHasReset p.content := by
    unfold State.RelayHasReset
    rw [inputs_]
  have judged : n.isIn p.content.monitored = true → u = w.judgeRelayReset t := fun monitored =>
    State.reportReleases_monitored (w := w) active monitored inactive
  have stays : u = w → u = { s with tick := t, inputs := u.inputs } := fun same => by
    rw [inputs_]
    exact same
  refine ⟨inputs_, fun no => stays ?_, fun monitored reset => ⟨fun gives => ?_, fun reason gives => ?_⟩⟩
  · cases monitored : n.isIn p.content.monitored with
    | false => exact State.reportReleases_unmonitored (w := w) active others monitored
    | true =>
      have standing := no.resolve_left (by simp [monitored])
      rw [judged monitored]
      exact State.judgeRelayReset_standing (w := w) active waiting fun reset => standing (reset_iff.2 reset)
  · rw [judged monitored, State.judgeRelayReset_goesOn (w := w) active waiting (reset_iff.1 reset) gives]
    rfl
  · have aborts := State.judgeRelayReset_fails (w := w) (t := t) active waiting (reset_iff.1 reset) gives
    rw [inputs_, judged monitored, aborts]
    have still : w.run.state.isPlaying = false := by
      show s.run.state.isPlaying = false
      rw [waiting]
      rfl
    exact ⟨AbortedAt.of_tick (s := { s with inputs := inputs }) (x := t)
      (State.abortActive_abortedAt (s := w) active reason rfl), State.abortActive_port_waiting (s := w) still reason t⟩

/-! ## The commands of one input -/

section
variable {s : State} {t : Tick} {n : Inp}

theorem State.takeSample_sampled {level : Bool} {q : Qualification} {change : InputChange}
    (fresh : (s.inputs.get n).sampledAt ≠ some t)
    (step : qualify (s.inputs.get n).config.samples t level (s.inputs.get n).qualification = (q, change))
    (noOperate : (s.recorded (s.inputs.get n).entry change).operate = (s.inputs.get n).entry.operate) :
    s.takeSample t n level = s.sampled t n level := by
  rw [State.takeSample_fresh fresh]
  exact State.updateCriterion_same (by rw [State.sampled_here step]; exact noOperate)

/-- A sample that completes no change into INACTIVE of its input. -/
theorem State.sampleOne_stays {level : Bool} {q : Qualification} {change : InputChange}
    (fresh : (s.inputs.get n).sampledAt ≠ some t)
    (step : qualify (s.inputs.get n).config.samples t level (s.inputs.get n).qualification = (q, change))
    (noOperate : (s.recorded (s.inputs.get n).entry change).operate = (s.inputs.get n).entry.operate)
    (noRelease : q ≠ .inactive ∨ (s.inputs.get n).qualification = .inactive ∨ ∀ a b, s.run.state ≠ .resetWait a b) :
    s.sampleOne t n level = s.sampled t n level := by
  have here := State.sampled_here step
  rw [State.sampleOne, State.takeSample_sampled fresh step noOperate]
  rcases noRelease with stands | already | still
  · refine State.reportReleases_none fun m => ?_
    by_cases same : m = n
    · simp [same, becameInactive, here, stands]
    · exact becameInactive_of_same (State.sampled_others m same)
  · refine State.reportReleases_none fun m => ?_
    by_cases same : m = n
    · simp [same, becameInactive, already]
    · exact becameInactive_of_same (State.sampled_others m same)
  · exact State.reportReleases_still still

/-- A sample that completes a change into INACTIVE during RESET_WAIT (R52, R109). -/
theorem State.sampleOne_endsWait {level : Bool} {change : InputChange} (fresh : (s.inputs.get n).sampledAt ≠ some t)
    (step : qualify (s.inputs.get n).config.samples t level (s.inputs.get n).qualification = (.inactive, change))
    (active_ : (s.inputs.get n).qualification ≠ .inactive) {since : Tick} {limit h : Nat} {p : TestPoint}
    (waiting : s.run.state = .resetWait since limit) (active : s.activePoint = some (h, p)) :
    let u := State.sampleOne { s with tick := t } t n level
    u.inputs = (State.sampled { s with tick := t } t n level).inputs ∧
    (n.isIn p.content.monitored = false ∨ ¬ u.RelayHasReset p.content → u = { s with tick := t, inputs := u.inputs }) ∧
    (n.isIn p.content.monitored = true → u.RelayHasReset p.content →
      (s.ScheduleGives p.content.start none →
        u = { s with tick := t, inputs := u.inputs, run := { s.run with state := s.goesOn p.content t } }) ∧
      (∀ reason, s.ScheduleGives p.content.start (some reason) →
        AbortedAt { s with inputs := u.inputs } u h p reason t ∧ u.port = s.port)) := by
  let k : State := { s with tick := t }
  have closed : k.run.state.started = false := by
    show s.run.state.started = false
    rw [waiting]
    rfl
  have entry : k.recorded (k.inputs.get n).entry change = (k.inputs.get n).entry := by
    rw [State.recorded, closed]
    rfl
  have taken : k.takeSample t n level = k.sampled t n level :=
    State.takeSample_sampled (s := k) fresh step (congrArg TableEntry.operate entry)
  have inactive : becameInactive s (k.sampled t n level) n = true := by
    have here := State.sampled_here (s := k) step
    simp [becameInactive, here, active_]
  show let u := k.sampleOne t n level; _
  rw [State.sampleOne, taken]
  exact State.release_endsWait (s := s) (inputs := (k.sampled t n level).inputs) State.sampled_others inactive waiting active

theorem exec_sensedLevelChange {closed raw : Bool} {volts : BitVec 9} (ahead : s.sampleAhead t)
    (fresh : (s.inputs.get n).sampledAt ≠ some t) (level : (s.inputs.get n).rawLevel closed volts = raw)
    (disagrees : (s.inputs.get n).qualification.disagrees (raw != (s.inputs.get n).config.inverted) = true) :
    exec (.sensedLevelChange t n closed volts) s =
      .next (State.sampleOne { s with tick := t } t n (raw != (s.inputs.get n).config.inverted)) := by
  have sensed : (s.inputs.get n).sensedLevel closed volts = (raw != (s.inputs.get n).config.inverted) := by
    rw [Input.sensedLevel, level]
  rw [← sensed] at disagrees ⊢
  refine congrArg Host.Outcome.next (State.happen_of ahead.2 ?_)
  simp [State.levelChanges, ahead.1, fresh, disagrees]

end

/-- Settles O31: the four disagreeing samples, and the judgement of the relay-reset condition after a bounce. -/
theorem sensedLevelChangeStartsOrCutsARun : Obligations.SensedLevelChangeStartsOrCutsARun := by
  intro s t n closed volts raw ahead fresh i dry wet level counted sampled becomes
  have raw_ := Input.rawLevel_eq dry wet
  let k : State := { s with tick := t }
  have memory := i.memoryAfter_raw raw
  have run : i.qualification.disagrees level = true →
      exec (.sensedLevelChange t n closed volts) s = .next (k.sampleOne t n level) := exec_sensedLevelChange ahead fresh raw_
  have here : ∀ q change, qualify i.config.samples t level i.qualification = (q, change) →
      (k.sampled t n level).inputs.get n = { i with
        qualification := q, wetMemory := if i.config.mode = .dry then i.wetMemory else raw, sensed := level
        sampledAt := some t, entry := k.recorded i.entry change } := fun q change step => by
    rw [← memory]
    exact State.sampled_here (s := k) step
  have bounced : k.recorded i.entry .bounce = { i.entry with bounces := counted } := by
    unfold State.recorded
    show (if s.run.state.started then _ else _) = _
    simp only [counted, TableEntry.record, saturate, Nat.min_comm]
    split <;> rfl
  have starts : k.recorded i.entry .nothing = i.entry := by
    unfold State.recorded TableEntry.record
    exact ite_self _
  have becomes_of : ∀ q change bounces, i.qualification.disagrees level = true →
      qualify i.config.samples t level i.qualification = (q, change) →
      k.recorded i.entry change = { i.entry with bounces := bounces } →
      (q ≠ .inactive ∨ ∀ a b, s.run.state ≠ .resetWait a b) → becomes q bounces := by
    intro q change bounces disagrees step entry noRelease
    have noOperate : (k.recorded i.entry change).operate = i.entry.operate := by rw [entry]
    have result := State.sampleOne_stays (s := k) fresh step noOperate (noRelease.imp_right .inr)
    refine ⟨_, ⟨(run disagrees).trans (congrArg _ result), State.sampled_others, ?_⟩, rfl⟩
    rw [here q change step, entry]
  refine ⟨fun inactive on two => ?_, fun r c pending off => ⟨fun still => ?_, fun since limit h p waiting active => ?_⟩,
    fun active off two => ?_, fun r c pending on => ?_⟩
  · exact becomes_of _ .nothing _ (by rw [inactive]; exact on)
      (by rw [inactive, on, qualify, if_neg (by omega)]) starts (.inl nofun)
  · exact becomes_of _ .bounce _ (by rw [pending]; simp [Qualification.disagrees, off])
      (by rw [pending, off]; rfl) bounced (.inr still)
  · have step : qualify i.config.samples t level i.qualification = (.inactive, .bounce) := by rw [pending, off]; rfl
    have pending_ : i.qualification ≠ .inactive := by rw [pending]; exact nofun
    have entry : k.recorded i.entry .bounce = i.entry := by
      rw [bounced]
      simp [counted, waiting, RunState.started]
    obtain ⟨inputs, stays, leads⟩ := State.sampleOne_endsWait fresh step pending_ waiting active
    refine ⟨_, ⟨run ?_, fun m other => ?_, ?_⟩, stays, leads⟩
    · rw [pending]
      simp [Qualification.disagrees, off]
    · exact (congrArg (PerInput.get · m) inputs).trans (State.sampled_others m other)
    · refine (congrArg (PerInput.get · n) inputs).trans ((here _ _ step).trans ?_)
      rw [entry]
  · exact becomes_of _ .nothing _ (by rw [active]; simp [Qualification.disagrees, off])
      (by rw [active, off, qualify, if_neg (by omega)]) starts (.inl nofun)
  · exact becomes_of _ .bounce _ (by rw [pending]; exact on) (by rw [pending, on]; rfl) bounced (.inl nofun)

end Sys2Proof.Machine

/-! Operates and releases, the trip criterion, and the samples of all ten inputs (R96 to R109). -/

namespace Sys2Proof.Machine

/-! ## A completed release -/

section
variable {s : State} {t stamp : Tick} {n : Inp}

theorem State.recorded_released (s : State) (e : TableEntry) (stamp : Tick) :
    s.recorded e (.released stamp) =
      if s.run.state.started = true ∧ e.operate.isSome ∧ e.release = none then
        { e with release := some (if Tick.before stamp s.shot.started then s.shot.started else stamp) }
      else e := by
  unfold State.recorded TableEntry.record TableEntry.recordRelease clipToStart
  obtain ⟨operate, standing, release, bounces⟩ := e
  cases s.run.state.started <;> cases operate <;> cases release <;> simp

theorem State.recorded_operated (s : State) (e : TableEntry) (stamp : Tick) :
    s.recorded e (.operated stamp) =
      if s.run.state.started = true ∧ e.operate = none then
        { e with operate := some (if Tick.before stamp s.shot.started then s.shot.started else stamp)
                 standing := Tick.before stamp s.shot.started }
      else e := by
  unfold State.recorded TableEntry.record TableEntry.recordOperate clipToStart
  obtain ⟨operate, standing, release, bounces⟩ := e
  cases s.run.state.started <;> cases operate <;> simp

theorem qualify_released {q : Nat} {state : Qualification}
    (completes : state = .active ∧ q ≤ 1 ∧ stamp = t ∨ ∃ r, state = .pendingOff r stamp ∧ q ≤ r + 1) :
    qualify q t false state = (.inactive, .released stamp) := by
  rcases completes with ⟨rfl, one, rfl⟩ | ⟨r, rfl, last⟩
  · exact if_pos one
  · exact if_pos last

theorem qualify_operated {q : Nat} {state : Qualification}
    (completes : state = .inactive ∧ q ≤ 1 ∧ stamp = t ∨ ∃ r, state = .pendingOn r stamp ∧ q ≤ r + 1) :
    qualify q t true state = (.active, .operated stamp) := by
  rcases completes with ⟨rfl, one, rfl⟩ | ⟨r, rfl, last⟩
  · exact if_pos one
  · exact if_pos last

theorem exec_release (ahead : s.sampleAhead t) (fresh : (s.inputs.get n).sampledAt ≠ some t)
    (step : qualify (s.inputs.get n).config.samples t false (s.inputs.get n).qualification = (.inactive, .released stamp)) :
    exec (.release t n) s = .next (State.sampleOne { s with tick := t } t n false) := by
  refine congrArg Host.Outcome.next (State.happen_of ahead.2 ?_)
  simp [State.releasesAt, State.changeAt, ahead.1, fresh, step]

theorem exec_operate (ahead : s.sampleAhead t) (fresh : (s.inputs.get n).sampledAt ≠ some t)
    (step : qualify (s.inputs.get n).config.samples t true (s.inputs.get n).qualification = (.active, .operated stamp)) :
    exec (.operate t n) s = .next (State.sampleOne { s with tick := t } t n true) := by
  refine congrArg Host.Outcome.next (State.happen_of ahead.2 ?_)
  simp [State.operatesAt, State.changeAt, ahead.1, fresh, step]

theorem Input.memoryAfter_active (i : Input) :
    i.memoryAfter true = if i.config.mode = .dry then i.wetMemory else !i.config.inverted := by
  have memory := i.memoryAfter_raw (!i.config.inverted)
  have level : ((!i.config.inverted) != i.config.inverted) = true := by cases i.config.inverted <;> rfl
  rwa [level] at memory

theorem Input.memoryAfter_inactive (i : Input) :
    i.memoryAfter false = if i.config.mode = .dry then i.wetMemory else i.config.inverted := by
  have memory := i.memoryAfter_raw i.config.inverted
  have level : (i.config.inverted != i.config.inverted) = false := by cases i.config.inverted <;> rfl
  rwa [level] at memory

end

/-- Settles O33: the record of the input released, then the end of RESET_WAIT. -/
theorem releaseIsBackDatedAndEndsTheWait : Obligations.ReleaseIsBackDatedAndEndsTheWait := by
  intro s t n stamp ahead fresh i completes recorded
  let k : State := { s with tick := t }
  have step := qualify_released completes
  have here := State.sampled_here (s := k) (level := false) step
  rw [Input.memoryAfter_inactive, State.recorded_released] at here
  have noOperate : (k.recorded i.entry (.released stamp)).operate = i.entry.operate := by
    rw [State.recorded_released]
    split <;> rfl
  have taken : k.takeSample t n false = k.sampled t n false := State.takeSample_sampled (s := k) fresh step noOperate
  have inputs : (k.sampleOne t n false).inputs = (k.sampled t n false).inputs := by
    rw [State.sampleOne, (State.reportReleases_frame _ _ t).2, taken]
  have standing : i.qualification ≠ .inactive := by
    rcases completes with ⟨active, -, -⟩ | ⟨r, pending, -⟩
    · rw [active]
      exact nofun
    · rw [pending]
      exact nofun
  refine ⟨_, exec_release ahead fresh step, fun m other => ?_, ?_, fun still => ?_, fun since limit h p waiting active => ?_⟩
  · exact (congrArg (PerInput.get · m) inputs).trans (State.sampled_others m other)
  · exact (congrArg (PerInput.get · n) inputs).trans here
  · rw [State.sampleOne_stays (s := k) fresh step noOperate (.inr (.inr still))]
    rfl
  · exact (State.sampleOne_endsWait fresh step standing waiting active).2

/-! ## The trip criterion -/

/-- The latest operate tick of the monitored inputs of a list, from a first one. -/
def State.latestOperate (s : State) (c : PointContent) (inputs : List Inp) (first : Tick) : Tick :=
  inputs.foldl (fun latest m =>
    if m.isIn c.monitored then
      match s.operateTick m with
      | some k => laterTick s.shot.started latest k
      | none => latest
    else latest) first

theorem laterTick_spec (started a b : Tick) :
    (laterTick started a b = a ∨ laterTick started a b = b) ∧
      Tick.elapsed started a ≤ Tick.elapsed started (laterTick started a b) ∧
      Tick.elapsed started b ≤ Tick.elapsed started (laterTick started a b) := by
  unfold laterTick
  split
  · exact ⟨.inr rfl, ‹_›, le_rfl⟩
  · exact ⟨.inl rfl, le_rfl, (Nat.lt_of_not_le ‹_›).le⟩

/-- It is one of the ticks, and none is later. -/
theorem State.latestOperate_spec (s : State) (c : PointContent) : ∀ (inputs : List Inp) (first : Tick),
    (s.latestOperate c inputs first = first ∨
      ∃ m ∈ inputs, m.isIn c.monitored = true ∧ s.operateTick m = some (s.latestOperate c inputs first)) ∧
    Tick.elapsed s.shot.started first ≤ Tick.elapsed s.shot.started (s.latestOperate c inputs first) ∧
    ∀ m ∈ inputs, m.isIn c.monitored = true → ∀ o, s.operateTick m = some o →
      Tick.elapsed s.shot.started o ≤ Tick.elapsed s.shot.started (s.latestOperate c inputs first)
  | [], first => ⟨.inl rfl, le_rfl, nofun⟩
  | a :: rest, first => by
    by_cases joins : a.isIn c.monitored = true ∧ (s.operateTick a).isSome
    · obtain ⟨monitored, k, tick⟩ := joins.imp_right Option.isSome_iff_exists.1
      have step : s.latestOperate c (a :: rest) first = s.latestOperate c rest (laterTick s.shot.started first k) := by
        simp [State.latestOperate, monitored, tick]
      obtain ⟨one, early, late⟩ := s.latestOperate_spec c rest (laterTick s.shot.started first k)
      obtain ⟨choice, first_, k_⟩ := laterTick_spec s.shot.started first k
      rw [step]
      refine ⟨?_, first_.trans early, fun m inside watched o found => ?_⟩
      · rcases one with same | ⟨m, inside, found⟩
        · rw [same]
          rcases choice with is | is
          · exact .inl is
          · exact .inr ⟨a, List.mem_cons_self, monitored, by rw [is, tick]⟩
        · exact .inr ⟨m, List.mem_cons_of_mem _ inside, found⟩
      · rcases List.mem_cons.1 inside with rfl | inside
        · cases tick.symm.trans found
          exact k_.trans early
        · exact late m inside watched o found
    · have step : s.latestOperate c (a :: rest) first = s.latestOperate c rest first := by
        unfold State.latestOperate
        rw [List.foldl_cons]
        congr 1
        split
        · have none_ : s.operateTick a = none := by simpa [‹a.isIn c.monitored = true›] using joins
          rw [none_]
        · rfl
      obtain ⟨one, early, late⟩ := s.latestOperate_spec c rest first
      rw [step]
      refine ⟨one.imp_right fun ⟨m, inside, found⟩ => ⟨m, List.mem_cons_of_mem _ inside, found⟩, early,
        fun m inside watched o found => ?_⟩
      rcases List.mem_cons.1 inside with rfl | inside
      · exact absurd ⟨watched, by simp [found]⟩ joins
      · exact late m inside watched o found

section
variable {s : State} {c : PointContent} {n : Inp} {t o : Tick}

theorem State.joinCriterion_any_later (any : c.combine = .any) (open_ : s.shot.criterion = none) {m : Inp}
    (other : m ≠ n ∧ m.isIn c.monitored = true) (operated : (s.operateTick m).isSome) :
    s.joinCriterion c n t o = none := by
  have found : (Inp.all.any fun m => decide (m ≠ n) && m.isIn c.monitored && (s.operateTick m).isSome) = true :=
    (Inp.any_all _).2 ⟨m, by simp [other, operated]⟩
  simp only [State.joinCriterion, any, open_, found, if_true]

theorem State.joinCriterion_any_first (any : c.combine = .any) (open_ : s.shot.criterion = none)
    (first : ∀ m : Inp, m ≠ n ∧ m.isIn c.monitored = true → s.operateTick m = none) :
    s.joinCriterion c n t o = some { qualifying := t, timestamp := o } := by
  have none_ : (Inp.all.any fun m => decide (m ≠ n) && m.isIn c.monitored && (s.operateTick m).isSome) = false := by
    refine Bool.eq_false_iff.2 fun found => ?_
    obtain ⟨m, watched⟩ := (Inp.any_all _).1 found
    simp only [Bool.and_eq_true, decide_eq_true_eq] at watched
    rw [first m watched.1] at watched
    exact absurd watched.2 (by decide)
  simp only [State.joinCriterion, any, open_, none_, Bool.false_eq_true, if_false]

theorem State.joinCriterion_any_some (any : c.combine = .any) {k : Criterion} (qualified : s.shot.criterion = some k) :
    s.joinCriterion c n t o =
      if k.qualifying = t then some { k with timestamp := earlierTick s.shot.started k.timestamp o } else some k := by
  simp only [State.joinCriterion, any, qualified]

theorem State.joinCriterion_all_some (all : c.combine = .all) {k : Criterion} (qualified : s.shot.criterion = some k) :
    s.joinCriterion c n t o = some k := by
  simp only [State.joinCriterion, all, qualified]

theorem State.joinCriterion_all_waits (all : c.combine = .all) (open_ : s.shot.criterion = none) {m : Inp}
    (monitored : m.isIn c.monitored = true) (waits : s.operateTick m = none) : s.joinCriterion c n t o = none := by
  have missing : (Inp.all.all fun m => !m.isIn c.monitored || (s.operateTick m).isSome) = false := by
    refine Bool.eq_false_iff.2 fun every => ?_
    have here := List.all_eq_true.1 every m (Inp.mem_all m)
    simp [monitored, waits] at here
  simp only [State.joinCriterion, all, open_, missing, Bool.false_eq_true, if_false]

theorem State.joinCriterion_all_last (all : c.combine = .all) (open_ : s.shot.criterion = none)
    (every : ∀ m : Inp, m.isIn c.monitored = true → (s.operateTick m).isSome) :
    s.joinCriterion c n t o = some { qualifying := t, timestamp := s.latestOperate c Inp.all o } := by
  have every : (Inp.all.all fun m => !m.isIn c.monitored || (s.operateTick m).isSome) = true :=
    List.all_eq_true.2 fun m _ => by
      cases watched : m.isIn c.monitored with
      | false => rfl
      | true => simp [every m watched]
  simp only [State.joinCriterion, all, open_, every, if_true]
  rfl

end

/-! ## A completed operate -/

section
variable {s : State} {t : Tick} {n : Inp} {before : TableEntry}

theorem State.updateCriterion_none (none_ : s.activePoint = none) : s.updateCriterion n t before = s := by
  unfold State.updateCriterion
  rw [none_]

variable {h : Nat} {p : TestPoint} (active : s.activePoint = some (h, p))
include active

theorem State.updateCriterion_unmonitored (unmonitored : n.isIn p.content.monitored = false) :
    s.updateCriterion n t before = s := by
  unfold State.updateCriterion
  rw [active]
  cases before.operate <;> cases s.operateTick n <;> simp [unmonitored]

theorem State.updateCriterion_joins (monitored : n.isIn p.content.monitored = true) (first : before.operate = none)
    {o : Tick} (tick : s.operateTick n = some o) : s.updateCriterion n t before =
      { s with shot := { s.shot with criterion := s.joinCriterion p.content n t o } } := by
  simp only [State.updateCriterion, active, first, tick, monitored, if_true]

end

theorem State.updateCriterion_frame (s : State) (n : Inp) (t : Tick) (before : TableEntry) :
    s.updateCriterion n t before =
      { s with shot := { s.shot with criterion := (s.updateCriterion n t before).shot.criterion } } := by
  unfold State.updateCriterion
  split
  · split <;> rfl
  · rfl

theorem State.updateCriterion_inputs (s : State) (n : Inp) (t : Tick) (before : TableEntry) :
    (s.updateCriterion n t before).inputs = s.inputs := by
  rw [State.updateCriterion_frame]

/-- Settles O32: the record of the input operated, then what it makes of the criterion, by the combine mode. -/
theorem operateIsBackDatedAndQualifies : Obligations.OperateIsBackDatedAndQualifies := by
  intro s t n stamp ahead fresh i completes first early tick
  let k : State := { s with tick := t }
  let w := k.sampled t n true
  have step := qualify_operated completes
  have here : w.inputs.get n = _ := State.sampled_here (s := k) (level := true) step
  rw [Input.memoryAfter_active, State.recorded_operated] at here
  have others : ∀ m, m ≠ n → w.inputs.get m = s.inputs.get m := State.sampled_others
  let u := w.updateCriterion n t i.entry
  have inputs : u.inputs = w.inputs := State.updateCriterion_inputs _ _ _ _
  have result : k.sampleOne t n true = u := by
    rw [State.sampleOne, State.takeSample_fresh (s := k) fresh]
    refine State.reportReleases_none fun m => ?_
    by_cases same : m = n
    · have active : (u.inputs.get m).qualification = .active := by rw [inputs, same, here]
      simp only [becameInactive]
      rw [active]
      simp
    · exact becameInactive_of_same ((congrArg (PerInput.get · m) inputs).trans (others m same))
  have entry : (w.inputs.get n).entry = if first then { i.entry with operate := some tick, standing := early } else i.entry := by
    rw [here]
  have operateTick_other : ∀ m, m ≠ n → w.operateTick m = (s.inputs.get m).entry.operate := fun m other =>
    congrArg (fun i : Input => i.entry.operate) (others m other)
  have unchanged : u = w → u.shot.criterion = s.shot.criterion := fun same => by rw [same]; rfl
  refine ⟨u, (exec_operate ahead fresh step).trans (congrArg _ result), ?_, fun m other => ?_, ?_, fun notFirst => ?_,
    fun none_ => ?_, fun h p active => ⟨fun unmonitored => ?_, fun isFirst monitored => ?_⟩⟩
  · have frame := w.updateCriterion_frame n t i.entry
    rw [inputs]
    exact frame
  · exact (congrArg (PerInput.get · m) inputs).trans (others m other)
  · exact (congrArg (PerInput.get · n) inputs).trans here
  · exact unchanged (State.updateCriterion_same (by rw [entry, if_neg notFirst]))
  · exact unchanged (State.updateCriterion_none (s := w) none_)
  · exact unchanged (State.updateCriterion_unmonitored (s := w) active unmonitored)
  · have operated : w.operateTick n = some tick := by
      rw [State.operateTick, entry, if_pos isFirst]
    have joins := State.updateCriterion_joins (s := w) (t := t) active monitored isFirst.2 operated
    have criterion : u.shot.criterion = w.joinCriterion p.content n t tick :=
      congrArg (fun x : State => x.shot.criterion) joins
    rw [criterion]
    refine ⟨fun any open_ => ⟨fun ⟨m, other, found⟩ => ?_, fun none_ => ?_⟩,
      fun any q qualified => ⟨fun differs => ?_, fun same => ?_⟩, fun all q qualified => ?_,
      fun all open_ => ⟨fun ⟨m, other, waits⟩ => ?_, fun every => ?_⟩⟩
    · exact State.joinCriterion_any_later (s := w) any open_ other (by rwa [operateTick_other m other.1])
    · exact State.joinCriterion_any_first (s := w) any open_ fun m other => by
        rw [operateTick_other m other.1]
        exact none_ m other
    · rw [State.joinCriterion_any_some (s := w) any qualified, if_neg differs]
    · rw [State.joinCriterion_any_some (s := w) any qualified, if_pos same, ← same]
      rfl
    · exact State.joinCriterion_all_some (s := w) all qualified
    · exact State.joinCriterion_all_waits (s := w) all open_ other.2 (by rw [operateTick_other m other.1, waits])
    · have every : ∀ m : Inp, m.isIn p.content.monitored = true → (w.operateTick m).isSome := fun m watched => by
        by_cases same : m = n
        · rw [same, operated]
          rfl
        · rw [operateTick_other m same]
          exact every m ⟨same, watched⟩
      obtain ⟨one, early, late⟩ := w.latestOperate_spec p.content Inp.all tick
      refine ⟨_, State.joinCriterion_all_last (s := w) all open_ every, ?_, fun m o watched found => ?_⟩
      · rw [inputs]
        rcases one with same | ⟨m, -, watched, found⟩
        · rw [same]
          exact ⟨n, monitored, operated⟩
        · exact ⟨m, watched, found⟩
      · rw [inputs] at found
        exact late m (Inp.mem_all m) watched o found

/-! ## The samples of all ten inputs -/

/-- The samples taken of a list of inputs, one after the other. -/
def State.sampleList (s : State) (t : Tick) (closed : BitVec 10) (volts : PerInput (BitVec 9)) (l : List Inp) : State :=
  l.foldl (fun s n => s.takeSample t n ((s.inputs.get n).sensedLevel (n.isIn closed) (volts.get n))) s

/-- Each input of the list is sampled once from its own record, whatever the others are. -/
theorem State.sampleList_spec (t : Tick) (closed : BitVec 10) (volts : PerInput (BitVec 9)) :
    ∀ (l : List Inp) (s : State), l.Nodup → (∀ n ∈ l, (s.inputs.get n).sampledAt ≠ some t) →
      let u := s.sampleList t closed volts l
      u = { s with inputs := u.inputs, shot := { s.shot with criterion := u.shot.criterion } } ∧
      (∀ n ∈ l, u.inputs.get n = (s.inputs.get n).sample t
        ((s.inputs.get n).sensedLevel (n.isIn closed) (volts.get n)) s.window?) ∧
      ∀ n, n ∉ l → u.inputs.get n = s.inputs.get n
  | [], s, _, _ => ⟨rfl, nofun, fun _ _ => rfl⟩
  | a :: rest, s, nodup, fresh => by
    obtain ⟨new, nodup⟩ := List.nodup_cons.1 nodup
    let level := (s.inputs.get a).sensedLevel (a.isIn closed) (volts.get a)
    let v := s.takeSample t a level
    have taken : v = _ := State.takeSample_fresh (level := level) (fresh a List.mem_cons_self)
    have inputs : v.inputs = (s.sampled t a level).inputs := by rw [taken, State.updateCriterion_inputs]
    have others : ∀ m, m ≠ a → v.inputs.get m = s.inputs.get m := fun m other => by
      rw [inputs, State.sampled_others m other]
    have frame : v = { s with inputs := v.inputs, shot := { s.shot with criterion := v.shot.criterion } } := by
      rw [inputs, taken, State.updateCriterion_frame]
      rfl
    have differs : ∀ m ∈ rest, m ≠ a := fun m inside same => new (same ▸ inside)
    obtain ⟨tail, sampled, kept⟩ := State.sampleList_spec t closed volts rest v nodup fun m inside => by
      rw [others m (differs m inside)]
      exact fresh m (List.mem_cons_of_mem _ inside)
    have window : v.window? = s.window? := by rw [frame]; rfl
    refine ⟨?_, fun m inside => ?_, fun m outside => ?_⟩
    · exact tail.trans (congrArg (fun x : State => { x with
        inputs := (v.sampleList t closed volts rest).inputs
        shot := { x.shot with criterion := (v.sampleList t closed volts rest).shot.criterion } }) frame)
    · rcases List.mem_cons.1 inside with rfl | inside
      · refine (kept m new).trans ?_
        rw [inputs, State.sampled_get]
      · have here := sampled m inside
        rw [others m (differs m inside), window] at here
        exact here
    · obtain ⟨other, outside⟩ := not_or.1 (mt List.mem_cons.2 outside)
      exact (kept m outside).trans (others m other)

/-- The qualification table (R99 to R101). -/
theorem qualify_state {q : Nat} (one : 1 ≤ q) (t : Tick) (level : Bool) (state : Qualification) :
    (qualify q t level state).1 =
      match state, level with
      | .inactive, false => .inactive
      | .inactive, true => if q = 1 then .active else .pendingOn 1 t
      | .pendingOn r c, true => if q ≤ r + 1 then .active else .pendingOn (r + 1) c
      | .pendingOn _ _, false => .inactive
      | .active, true => .active
      | .active, false => if q = 1 then .inactive else .pendingOff 1 t
      | .pendingOff r c, false => if q ≤ r + 1 then .inactive else .pendingOff (r + 1) c
      | .pendingOff _ _, true => .active := by
  have first : q ≤ 1 ↔ q = 1 := by omega
  cases state <;> cases level <;> simp only [qualify, first] <;> split <;> rfl

/-- Settles O34: the samples of the ten inputs, each from its own record, then the judgement of the relay reset. -/
theorem inputSampleSensesEveryInput : Obligations.InputSampleSensesEveryInput := by
  intro s t closed volts ahead fresh valid
  let k : State := { s with tick := t }
  let w := k.sampleList t closed volts Inp.all
  obtain ⟨frame, sampled, -⟩ := State.sampleList_spec t closed volts Inp.all k (by decide) fun n _ => fresh n
  let u := State.reportReleases k w t
  obtain ⟨tick, inputs⟩ := State.reportReleases_frame k w t
  have tick_ : w.tick = t := congrArg State.tick frame
  have run : exec (.inputSample t closed volts) s = .next u :=
    congrArg Host.Outcome.next (State.happen_of (effect := fun k => k.sampleAll t closed volts) ahead.2 ahead.1)
  refine ⟨u, run, tick.trans tick_, fun still => ?_, fun n => ?_⟩
  · have state := congrArg (fun x : State => x.run.state) frame
    have state : w.run.state = s.run.state := state
    have same : u = w := State.reportReleases_still (by rw [state]; exact still)
    rw [same]
    exact frame
  · have here : u.inputs.get n = _ := (congrArg (PerInput.get · n) inputs).trans (sampled n (Inp.mem_all n))
    refine ⟨(s.inputs.get n).rawLevel (n.isIn closed) (volts.get n), fun dry => ?_, fun on off wet => ?_, ?_⟩
    · rw [Input.rawLevel, dry]
      rfl
    · rw [Input.rawLevel, wet]
    · rw [here]
      refine ⟨rfl, rfl, rfl, rfl, Input.memoryAfter_raw _ _, ?_⟩
      exact qualify_state (valid n).1 t _ _

end Sys2Proof.Machine

/-! Generator instants: the drive samples, the feedback samples and the window estimates (R67, R70, R71, R85 to R87). -/

namespace Sys2Proof.Machine

/-! ## The arithmetic of windows -/

theorem windowSamples_eq (frequency : Nat) :
    windowSamples frequency = (50000000 + frequency) / (2 * frequency) := by
  rw [windowSamples, roundHalfUp, show 2 * frequency + 2 * 50000000 = 2 * (50000000 + frequency) by omega]
  exact Nat.mul_div_mul_left _ _ (by decide)

theorem levelEstimate_eq (sum range samples : Nat) :
    levelEstimate sum range samples =
      (2 * (11107 * (sum * range)) + 10000 * 23170 * samples) / (2 * (10000 * 23170 * samples)) := by
  rw [levelEstimate, roundHalfUp, Nat.add_comm]

/-! ## Feedback samples -/

section
variable {k : Channel} {w : Window} {y : Synth} {t : Tick} {feedback : BitVec 16}
variable (window : k.window = some w) (fresh : k.fedAt ≠ some t)
include window fresh

/-- A sample inside a window. -/
theorem Channel.feed_inside (inside : w.taken + 1 < windowSamples y.frequency) : k.feed y t feedback =
    { k with fedAt := some t
             window := some { w with taken := w.taken + 1, sum := w.sum + feedback.toInt.natAbs } } := by
  simp only [Channel.feed, window, fresh, if_false, Window.feed, inside, if_true]

/-- The sample that completes a window after the first is estimated and classed. -/
theorem Channel.feed_completes (counts : w.settling = false) (last : windowSamples y.frequency ≤ w.taken + 1) :
    k.feed y t feedback =
      Channel.classify { k with window := some { settling := false, taken := 0, sum := 0 }, fedAt := some t }
        (levelRatio (levelEstimate (w.sum + feedback.toInt.natAbs) k.config.range (windowSamples y.frequency))
          y.applied) := by
  have last : ¬ w.taken + 1 < windowSamples y.frequency := Nat.not_lt.2 last
  simp only [Channel.feed, window, fresh, if_false, Window.feed, last, counts, Bool.false_eq_true]

end

section
variable {s : State} {t : Tick} {c : Chan} {feedback : BitVec 16}

theorem State.feedChannel_frame (s : State) (t : Tick) (c : Chan) (feedback : BitVec 16) :
    let u := s.feedChannel t c feedback
    u = { s with channels := u.channels, shot := { s.shot with changes := u.shot.changes }
                 port := { s.port with channel := u.port.channel } } ∧
      u.channels = s.channels.update c fun _ => (s.channels.get c).feed (s.gen.synths.get c) t feedback := by
  unfold State.feedChannel
  dsimp only
  split <;> exact ⟨rfl, rfl⟩

/-- A channel whose compliance stays is fed alone. -/
theorem State.feedChannel_same
    (same : ((s.channels.get c).feed (s.gen.synths.get c) t feedback).lost = (s.channels.get c).lost) :
    s.feedChannel t c feedback = { s with
      channels := s.channels.update c fun _ => (s.channels.get c).feed (s.gen.synths.get c) t feedback } := by
  simp only [State.feedChannel, same, if_true]

/-- A compliance change is handed over and raises CHANNEL. -/
theorem State.feedChannel_changes {k : Channel} (fed : (s.channels.get c).feed (s.gen.synths.get c) t feedback = k)
    (differs : k.lost ≠ (s.channels.get c).lost) :
    s.feedChannel t c feedback = { s with
      channels := s.channels.update c (fun _ => k)
      shot := { s.shot with changes := s.shot.changes ++ [{ channel := c, lost := k.lost, decision := t }] }
      port := { s.port with channel := true } } := by
  simp only [State.feedChannel, fed, differs, if_false, State.raiseChannelIf, Bool.or_true]

end

/-- The feedback samples of a list of channels, one after the other. -/
def State.feedList (s : State) (t : Tick) (feedback : PerChannel (BitVec 16)) (l : List Chan) : State :=
  l.foldl (fun k c => k.feedChannel t c (feedback.get c)) s

/-- Each channel of the list is fed once from its own record and synthesiser. -/
theorem State.feedList_spec (t : Tick) (feedback : PerChannel (BitVec 16)) :
    ∀ (l : List Chan) (s : State), l.Nodup →
      let u := s.feedList t feedback l
      u = { s with channels := u.channels, shot := { s.shot with changes := u.shot.changes }
                   port := { s.port with channel := u.port.channel } } ∧
      (∀ c ∈ l, u.channels.get c = (s.channels.get c).feed (s.gen.synths.get c) t (feedback.get c)) ∧
      ∀ c, c ∉ l → u.channels.get c = s.channels.get c
  | [], s, _ => ⟨rfl, nofun, fun _ _ => rfl⟩
  | a :: rest, s, nodup => by
    obtain ⟨new, nodup⟩ := List.nodup_cons.1 nodup
    obtain ⟨frame, channels⟩ := s.feedChannel_frame t a (feedback.get a)
    let v := s.feedChannel t a (feedback.get a)
    have others : ∀ c, c ≠ a → v.channels.get c = s.channels.get c := fun c other => by
      rw [channels, PerChannel.get_update, if_neg other.symm]
    have differs : ∀ c ∈ rest, c ≠ a := fun c inside same => new (same ▸ inside)
    obtain ⟨tail, fed, kept⟩ := State.feedList_spec t feedback rest v nodup
    have gen := congrArg State.gen frame
    have gen : v.gen = s.gen := gen
    refine ⟨?_, fun c inside => ?_, fun c outside => ?_⟩
    · exact tail.trans (congrArg (fun x : State => { x with
        channels := (v.feedList t feedback rest).channels
        shot := { x.shot with changes := (v.feedList t feedback rest).shot.changes }
        port := { x.port with channel := (v.feedList t feedback rest).port.channel } }) frame)
    · rcases List.mem_cons.1 inside with rfl | inside
      · refine (kept c new).trans ?_
        rw [channels, PerChannel.get_update, if_pos rfl]
      · have here := fed c inside
        rw [others c (differs c inside), gen] at here
        exact here
    · obtain ⟨other, outside⟩ := not_or.1 (mt List.mem_cons.2 outside)
      exact (kept c outside).trans (others c other)

/-- Feedback samples of unsupervised channels alone change nothing (R85). -/
theorem State.feedList_unsupervised (t : Tick) (feedback : PerChannel (BitVec 16)) :
    ∀ (l : List Chan) (s : State), (∀ c, (s.channels.get c).window = none) → s.feedList t feedback l = s
  | [], _, _ => rfl
  | a :: rest, s, none_ => by
    have fed := Channel.feed_of_no_window (none_ a) (s.gen.synths.get a) t (feedback.get a)
    have same : s.feedChannel t a (feedback.get a) = s := by
      rw [State.feedChannel_same (by rw [fed]), fed]
      have unchanged : (s.channels.update a fun _ => s.channels.get a) = s.channels :=
        PerChannel.ext_get fun c => by
          rw [PerChannel.get_update]
          split
          · rename_i same
            rw [same]
          · rfl
      rw [unchanged]
    show State.feedList (s.feedChannel t a (feedback.get a)) t feedback rest = s
    rw [same]
    exact State.feedList_unsupervised t feedback rest s none_

/-! ## The drive samples -/

/-- The next generator instant turns every accumulator once (R67). -/
theorem Generator.arrive_next {g : Generator} {t last : Tick} (stepped : g.instant = some last)
    (instant : last.toNat % 20 = 0) (next : t = last + 20) (noWrap : last.toNat + 20 < 2 ^ 48) :
    g.arrive t = { g with synths := g.synths.map (Synth.turn 1), v1Before := g.synths.v1.accumulator, instant := some t } := by
  have now : t.toNat = last.toNat + 20 := by
    rw [next, BitVec.toNat_add]
    exact Nat.mod_eq_of_lt noWrap
  have reached : Tick.reached last t = true := by
    have difference : t - last = 20 := by rw [next]; simp
    rw [Tick.reached, Tick.elapsed, difference]
    decide
  have one : g.instantsDue t = 1 := by
    simp only [Generator.instantsDue, stepped, reached, if_true, Tick.instantsBetween, now]
    rw [if_pos (by omega)]
    omega
  have still : (g.synths.v1.turn 0).accumulator = g.synths.v1.accumulator := by simp [Synth.turn]
  unfold Generator.arrive
  rw [one]
  simp only [still]

theorem driveSample_toInt (y : Synth) (mute : Bool) (small : y.peak ≤ 32767) :
    (driveSample y mute).toInt = if mute then 0 else sampleAt y.peak (y.accumulator + y.offset) := by
  unfold driveSample
  cases mute with
  | true => rfl
  | false =>
    have bound := sampleAt_natAbs_le y.peak (y.accumulator + y.offset)
    simp only [Bool.false_eq_true, if_false]
    rw [BitVec.toInt_ofInt]
    exact Int.bmod_eq_of_le (by omega) (by omega)

/-- Settles O37: the accumulators turned once, the samples delivered, then each channel fed from its own record. -/
theorem generatorInstantDeliversOneSample : Obligations.GeneratorInstantDeliversOneSample := by
  intro s t last feedback ahead stepped instant next noWrap
  have turned := Generator.arrive_next stepped instant next noWrap
  let v := (s.stepped t).deliver
  have run : exec (.generatorInstant t feedback) s = .next (v.feedList t feedback Chan.all) := by
    show execGeneratorInstant t feedback s = _
    simp only [execGeneratorInstant, ahead.1, if_true, State.atInstant_of_reached ahead.2]
    rfl
  obtain ⟨frame, fed, -⟩ := State.feedList_spec t feedback Chan.all v (by decide)
  have gen := congrArg State.gen frame
  have gen : (v.feedList t feedback Chan.all).gen = v.gen := gen
  have arrived : v.gen = { s.gen.arrive t with synths := v.gen.synths } := rfl
  have synth : ∀ c, v.gen.synths.get c = { (s.gen.synths.get c).turn 1 with
      drive := driveSample ((s.gen.synths.get c).turn 1) (s.channels.get c).mute } := fun c => by
    simp [v, State.deliver, State.stepped, turned]
  refine ⟨_, run, ?_, fun c =>
    ⟨⟨driveSample ((s.gen.synths.get c).turn 1) (s.channels.get c).mute, ?_, fun small => ?_⟩, fun none_ => ?_, fun w window fresh inside => ?_, fun none_ => ?_⟩⟩
  · refine frame.trans ?_
    rw [gen, arrived, turned]
    rfl
  · rw [gen, synth c]
    simp [Synth.turn]
  · rw [driveSample_toInt]
    · simp [Synth.turn]
    · exact small
  · rw [fed c (Chan.mem_all c)]
    exact Channel.feed_of_no_window none_ _ t _
  · rw [fed c (Chan.mem_all c)]
    refine Channel.feed_inside (k := s.channels.get c) window fresh ?_
    rw [synth c]
    show _ < windowSamples (s.gen.synths.get c).frequency
    rwa [windowSamples_eq]
  · rw [State.feedList_unsupervised t feedback Chan.all v none_]
    exact ⟨rfl, rfl⟩

/-! ## Window estimates -/

/-- The compliance class of a ratio, as the statements say it (R87). -/
theorem Channel.classify_spec (k : Channel) (ratio : Nat) :
    let short := decide (ratio < k.config.offThreshold)
    let full := decide (k.config.offThreshold ≤ ratio ∧ k.config.onThreshold ≤ ratio)
    let decides := decide (k.config.qualifying ≤ k.qualifying + 1)
    let lose := !k.lost && short && decides
    let regain := k.lost && full && decides
    let counts := (!k.lost && short || k.lost && full) && !decides
    k.classify ratio = { k with
      lost := (k.lost || lose) && !regain
      qualifying := if counts then k.qualifying + 1 else 0
      losses := if lose then min (k.losses + 1) 65535 else k.losses } := by
  obtain below | ⟨notShort, notFull⟩ | ⟨notShort, above⟩ : (ratio < k.config.offThreshold) ∨
      (¬ ratio < k.config.offThreshold ∧ ratio < k.config.onThreshold) ∨
      (¬ ratio < k.config.offThreshold ∧ ¬ ratio < k.config.onThreshold) := by omega
  · have notFull : ¬ (k.config.offThreshold ≤ ratio ∧ k.config.onThreshold ≤ ratio) := by omega
    unfold Channel.classify
    cases lost : k.lost with
    | true => simp [below, notFull]
    | false =>
      by_cases last : k.config.qualifying ≤ k.qualifying + 1 <;> simp [below, last, saturate]
  · have notFull_ : ¬ (k.config.offThreshold ≤ ratio ∧ k.config.onThreshold ≤ ratio) := by omega
    unfold Channel.classify
    simp [notShort, notFull, notFull_]
  · have full : k.config.offThreshold ≤ ratio ∧ k.config.onThreshold ≤ ratio := by omega
    unfold Channel.classify
    cases lost : k.lost with
    | false => simp [notShort, above]
    | true =>
      by_cases last : k.config.qualifying ≤ k.qualifying + 1 <;> simp [notShort, above, full, last]

theorem exec_windowEstimate {s : State} {t : Tick} {c : Chan} {feedback : BitVec 16} {w : Window}
    (ahead : s.instantAhead t) (window : (s.channels.get c).window = some w) (counts : w.settling = false)
    (last : windowSamples (s.gen.synths.get c).frequency ≤ w.taken + 1) (fresh : (s.channels.get c).fedAt ≠ some t) :
    exec (.windowEstimate t c feedback) s = .next (State.feedChannel { s with tick := t } t c feedback) := by
  refine congrArg Host.Outcome.next (State.happen_of ahead.2 ?_)
  simp [State.completesWindow, ahead.1, window, counts, last, fresh]

/-- Settles O39: the estimate of the completed window, its class, and the change handed over. -/
theorem windowEstimateIsClassed : Obligations.WindowEstimateIsClassed := by
  intro s t c feedback w ahead k y samples window counts whole fresh sum divisor estimate ratio short full decides lose
    regain counted
  have size : windowSamples y.frequency = samples := windowSamples_eq y.frequency
  let after : Channel := { k with
    window := some { settling := false, taken := 0, sum := 0 }
    fedAt := some t
    lost := (k.lost || lose) && !regain
    qualifying := if counted then k.qualifying + 1 else 0
    losses := if lose then min (k.losses + 1) 65535 else k.losses }
  have fed : k.feed y t feedback = after := by
    rw [Channel.feed_completes window fresh counts (by omega), size, levelEstimate_eq]
    exact Channel.classify_spec { k with window := some { settling := false, taken := 0, sum := 0 }, fedAt := some t } ratio
  have run := exec_windowEstimate (feedback := feedback) ahead window counts (by show windowSamples y.frequency ≤ _; omega) fresh
  have records : ∀ u : State, u.channels = s.channels.update c (fun _ => after) →
      (∀ d, d ≠ c → u.channels.get d = s.channels.get d) ∧ u.channels.get c = after := fun u channels => by
    rw [channels]
    exact ⟨fun d other => by rw [PerChannel.get_update, if_neg other.symm], by rw [PerChannel.get_update, if_pos rfl]⟩
  cases changes : lose || regain with
  | false =>
    obtain ⟨noLose, noRegain⟩ := Bool.or_eq_false_iff.1 changes
    have same : after.lost = k.lost := by simp [after, noLose, noRegain]
    have result := State.feedChannel_same (s := { s with tick := t }) (t := t) (c := c) (feedback := feedback) (by
      show (k.feed y t feedback).lost = k.lost
      rw [fed, same])
    refine ⟨_, run, ?_, records _ ?_⟩
    · rw [result, noLose, noRegain, Bool.or_false, Bool.or_false, if_neg (by decide)]
    · rw [result]
      exact congrArg (fun k : Channel => s.channels.update c fun _ => k) fed
  | true =>
    have lost : after.lost = lose ∧ lose ≠ k.lost := by
      rcases Bool.or_eq_true_iff.1 changes with lost | regained
      · have normal : k.lost = false := by
          have both := lost
          simp only [lose, Bool.and_eq_true, Bool.not_eq_true'] at both
          exact both.1.1
        have noRegain : regain = false := by simp [regain, normal]
        simp [after, lost, noRegain, normal]
      · have stood : k.lost = true := by
          have both := regained
          simp only [regain, Bool.and_eq_true] at both
          exact both.1.1
        have noLose : lose = false := by simp [lose, stood]
        simp [after, regained, noLose, stood]
    have result := State.feedChannel_changes (s := { s with tick := t }) (t := t) (c := c) (feedback := feedback)
      (k := after) fed (by rw [lost.1]; exact lost.2)
    refine ⟨_, run, ?_, records _ (by rw [result])⟩
    rw [result, lost.1, if_pos rfl, Bool.or_assoc, changes, Bool.or_true]

end Sys2Proof.Machine

/-! Shots: the start, the entry of states, the ends of states and the point-on-wave inception (R54 to R57, R72 to R80). -/

namespace Sys2Proof.Machine

/-! ## The entry of a state at a position -/

section
variable {p : TestPoint} {c : StateContent} {position : Nat}

/-- A trial changes amplitudes alone (R80). -/
theorem TestPoint.playedContent_tuning (ch : Chan) :
    ((p.playedContent position c).settings.get ch).frequency = (c.settings.get ch).frequency ∧
      ((p.playedContent position c).settings.get ch).angle = (c.settings.get ch).angle := by
  unfold TestPoint.playedContent
  split
  · split
    · simp only [StateContent.withTrial, PerChannel.get_of]
      split <;> exact ⟨rfl, rfl⟩
    · exact ⟨rfl, rfl⟩
  · exact ⟨rfl, rfl⟩

end

/-- What the entry of a state leaves (R35, R55, R72 to R76, R115, R120). -/
structure EnteredAt (w u : State) (k : Nat) (c : PointContent) (content : StateContent) (position : Nat) (t : Tick)
    (fault : Option Tick) : Prop where
  frame : u = { w with
    gen := u.gen, channels := u.channels, shot := u.shot
    run := { w.run with state := .playing { stage := .inPlay position t, fault := fault } } }
  state : StateEntered w u k content t
  entries : u.shot.entries =
    w.shot.entries ++ [{ entry := t, amplitudes := content.settings.map fun c => c.amplitude }]
  shot : u.shot = { w.shot with
    entries := u.shot.entries, inception := u.shot.inception
    complianceAtInception := u.shot.complianceAtInception, working := u.shot.working }
  inception : position = c.faultPosition → InceptionAt w u c content t
  none_ : position ≠ c.faultPosition → u.shot.inception = w.shot.inception ∧ u.shot.working = w.shot.working

section
variable {w : State} {p : TestPoint} {k position : Nat} {r : StateRecord} {t : Tick}

theorem State.listed_eq (found : p.content.states[position - 1]? = some k) (record : w.states.at? k = some r) :
    w.listed p.content position = some (k, r.content) := by
  simp only [State.listed, found, record, Option.map_some]

theorem State.enterState_entered (w : State) (k : Nat) (content : StateContent) (t : Tick) :
    StateEntered w (w.enterState k content t) k content t where
  generator := rfl
  synths c := by
    simp only [State.enterState, PerChannel.get_of]
    rfl
  channels c := by
    simp only [State.enterState, PerChannel.get_of]
    rfl

theorem State.enterState_lost (w : State) (k : Nat) (content : StateContent) (t : Tick) (ch : Chan) :
    ((w.enterState k content t).channels.get ch).lost = (w.channels.get ch).lost := by
  simp only [State.enterState, PerChannel.get_of]
  rfl

theorem State.enterPosition_entered {stage : Stage} {fault : Option Tick}
    (found : p.content.states[position - 1]? = some k) (record : w.states.at? k = some r)
    (playing : w.run.state = .playing { stage := stage, fault := fault }) :
    EnteredAt w (w.enterPosition p position t) k p.content (p.playedContent position r.content) position t fault := by
  let content := p.playedContent position r.content
  let e := ((w.enterState k content t).noteEntry content t).setStage (.inPlay position t)
  have result : w.enterPosition p position t =
      if position = p.content.faultPosition then e.inception p.content content t else e := by
    simp only [State.enterPosition, State.listed_eq found record]
    rfl
  have e_ : e = { (w.enterState k content t).noteEntry content t with
      run := { w.run with state := .playing { stage := .inPlay position t, fault := fault } } } := by
    have playing : ((w.enterState k content t).noteEntry content t).run.state =
      .playing { stage := stage, fault := fault } := playing
    simp only [e, State.setStage, playing]
    rfl
  obtain ⟨generator, synths, channels⟩ := w.enterState_entered k content t
  rw [result, e_]
  split
  · rename_i isFault
    refine ⟨rfl, ⟨generator, synths, channels⟩, rfl, rfl, fun _ => ⟨rfl, ⟨_, rfl, fun ch => ?_⟩, rfl⟩, fun other => absurd isFault other⟩
    rw [PerChannel.get_map]
    exact w.enterState_lost k content t ch
  · rename_i other
    exact ⟨rfl, ⟨generator, synths, channels⟩, rfl, rfl, fun isFault => absurd isFault other, fun _ => ⟨rfl, rfl⟩⟩

/-! ## The target of a deferral -/

theorem State.waveTarget_none (found : p.content.states[position - 1]? = some k) (record : w.states.at? k = some r)
    (enters : position ≠ p.content.faultPosition ∨ r.content.inception = .continuous) :
    w.waveTarget p.content position = none := by
  unfold State.waveTarget
  split
  · rename_i isFault
    have continuous := enters.resolve_left (not_not_intro isFault)
    simp only [State.listed_eq found record, continuous]
  · rfl

theorem State.waveTarget_angle (found : p.content.states[position - 1]? = some k) (record : w.states.at? k = some r)
    (isFault : position = p.content.faultPosition) {theta : Nat} (angle : r.content.inception = .angle theta) :
    w.waveTarget p.content position = some (phaseOf theta) := by
  simp only [State.waveTarget, isFault, if_true]
  rw [← isFault]
  simp only [State.listed_eq found record, angle]

/-- A target is the angle of the fault state's record. -/
theorem State.waveTarget_eq_some (found : p.content.states[position - 1]? = some k) (record : w.states.at? k = some r)
    {target : Phase} (at_ : w.waveTarget p.content position = some target) :
    position = p.content.faultPosition ∧ ∃ theta, r.content.inception = .angle theta ∧ target = phaseOf theta := by
  by_cases isFault : position = p.content.faultPosition
  · cases inception : r.content.inception with
    | continuous =>
      rw [State.waveTarget_none found record (.inr inception)] at at_
      cases at_
    | angle theta =>
      rw [State.waveTarget_angle found record isFault inception] at at_
      cases at_
      exact ⟨isFault, theta, rfl, rfl⟩
  · rw [State.waveTarget_none found record (.inl isFault)] at at_
    cases at_

end

namespace EnteredAt
variable {w u : State} {k : Nat} {c : PointContent} {content : StateContent} {position : Nat} {t : Tick}
variable {fault : Option Tick} (e : EnteredAt w u k c content position t fault)
include e

theorem runState : u.run.state = .playing { stage := .inPlay position t, fault := fault } := by rw [e.frame]

theorem framed : u = { w with
    gen := u.gen, channels := u.channels, shot := u.shot, run := { w.run with state := u.run.state } } := by
  rw [e.runState]
  exact e.frame

theorem clampNotes : u.shot.clampNotes = w.shot.clampNotes := by rw [e.shot]

theorem faultEnd : u.shot.faultEnd = w.shot.faultEnd := by rw [e.shot]

end EnteredAt

/-! ## The ends of states -/

/-- The commands that end the state in play: its duration has run out, or its criterion qualified (R56, R57). -/
def State.EndsAt (s : State) (t : Tick) (i : Instr) (entry : Tick) (snapshot : Snapshot) : Prop :=
  i = .stateDurationEnd t ∧ Tick.reached (entry + BitVec.ofNat 48 snapshot.content.duration) t = true ∨
    i = .inputStateEnd t ∧ snapshot.content.endCondition = .input ∧ ∃ c, s.shot.criterion = some c ∧
      Tick.reached entry c.qualifying = true ∧ Tick.before c.qualifying t = true

section
variable {s : State} {t entry : Tick} {i : Instr} {h position : Nat} {p : TestPoint} {fault : Option Tick}
variable {snapshot : Snapshot}

theorem exec_endsAt (ahead : s.instantAhead t) (active : s.activePoint = some (h, p))
    (playing : s.run.state = .playing { stage := .inPlay position entry, fault := fault })
    (inPlay : s.gen.snapshot = some snapshot) (ends : s.EndsAt t i entry snapshot) :
    exec i s = .next ((s.stepped t).endState h p position t) := by
  have place : s.run.state.inPlay? = some (position, entry) := by rw [playing]; rfl
  have result : (s.stepped t).endInPlay t = (s.stepped t).endState h p position t := by
    have place : (s.stepped t).run.state.inPlay? = some (position, entry) := place
    have active : (s.stepped t).activePoint = some (h, p) := active
    simp only [State.endInPlay, place, State.withActive, active]
  rcases ends with ⟨rfl, due⟩ | ⟨rfl, input, c, criterion, after, before⟩
  · refine congrArg Host.Outcome.next ((State.onInstant_of ahead ?_).trans result)
    simp only [State.durationOver, place, inPlay, due]
  · refine congrArg Host.Outcome.next ((State.onInstant_of ahead ?_).trans result)
    simp only [State.inputEnds, place, inPlay, criterion, input, after, before, decide_true, Bool.and_self]

/-- Clamp notes handed over, told of the accumulators stepped. -/
theorem NotesHanded.arrived {u : State} (handed : NotesHanded s u t) :
    NotesHanded { s with gen := s.gen.arrive t } u t := fun n => by
  rw [handed n, ← Generator.arrive_clampNote s.gen t]

/-- An instant reached at which the state at a position ends, its end noted where it is the fault state (R135). -/
def State.ended (s : State) (t : Tick) (c : PointContent) (position : Nat) : State :=
  s.endedAt t (if position = c.faultPosition then some t else s.shot.faultEnd)

/-- A state that is not the last leads to the next (R56). -/
theorem State.endState_enters (more : position < p.content.states.length)
    (enters : ∀ target, (s.ended t p.content position).waveTarget p.content (position + 1) = some target →
      (s.gen.arrive t).meets target = true) :
    (s.stepped t).endState h p position t =
      ((s.ended t p.content position).handNotes t).enterPosition p (position + 1) t := by
  rw [State.endState, State.noteFaultEnd_stepped, if_pos more]
  show (match (s.ended t p.content position).waveTarget p.content (position + 1) with
    | some target => if (s.gen.arrive t).meets target then
        ((s.ended t p.content position).handNotes t).enterPosition p (position + 1) t
      else (s.ended t p.content position).setStage (.deferred position)
    | none => ((s.ended t p.content position).handNotes t).enterPosition p (position + 1) t) = _
  split
  · rename_i target found
    rw [if_pos (enters target found)]
  · rfl

/-- The entry of the fault state is deferred (R77). -/
theorem State.endState_defers (more : position < p.content.states.length) {target : Phase}
    (found : (s.ended t p.content position).waveTarget p.content (position + 1) = some target)
    (waits : (s.gen.arrive t).meets target = false) :
    (s.stepped t).endState h p position t = (s.ended t p.content position).setStage (.deferred position) := by
  have waits : ¬ (s.ended t p.content position).gen.meets target = true := Bool.eq_false_iff.1 waits
  have found : (s.endedAt t (if position = p.content.faultPosition then some t else s.shot.faultEnd)).waveTarget
    p.content (position + 1) = some target := found
  rw [State.endState, State.noteFaultEnd_stepped, if_pos more]
  simp only [found]
  exact if_neg waits

theorem State.endState_last (last : p.content.states.length ≤ position) :
    (s.stepped t).endState h p position t =
      (s.ended t p.content position).endShot h p t := by
  rw [State.endState, State.noteFaultEnd_stepped, if_neg (Nat.not_lt.2 last)]
  rfl

end

/-- Settles O41: the ended state's notes are handed over and the next state entered, or its entry deferred. -/
theorem endedStatesLeadToTheNext : Obligations.EndedStatesLeadToTheNext := by
  intro s t i h k position p r entry fault snapshot ahead active playing inPlay found record ends v content isFault
  let ended := s.ended t p.content position
  obtain ⟨more, -⟩ := List.getElem?_eq_some_iff.1 found
  have run := exec_endsAt ahead active playing inPlay ends
  have leads : (∀ target, ended.waveTarget p.content (position + 1) = some target → v.gen.meets target = true) →
      ∃ u, exec i s = .next u ∧ EnteredAt (ended.handNotes t) u k p.content content (position + 1) t fault := fun enters =>
    ⟨_, run.trans (congrArg _ (State.endState_enters more enters)),
      State.enterPosition_entered (w := ended.handNotes t) found record playing⟩
  have handed : NotesHanded v (ended.handNotes t) t := (State.handNotes_handed _).arrived
  by_cases waits : ∃ theta, isFault ∧ r.content.inception = .angle theta ∧ v.gen.meets (phaseOf theta) = false
  · obtain ⟨theta, fault_, angle, waits⟩ := waits
    have target := State.waveTarget_angle (w := ended) (position := position + 1) found record fault_.symm angle
    have stage : (s.stepped t).endState h p position t =
        ended.setRun (.playing { stage := .deferred position, fault := fault }) := by
      rw [State.endState_defers more target waits]
      have playing : ended.run.state = .playing { stage := .inPlay position entry, fault := fault } := playing
      show ended.setStage (.deferred position) = _
      simp only [State.setStage, playing]
    refine ⟨_, run.trans (congrArg _ stage), rfl, rfl, fun enters => ?_, fun angle' _ at_ => ?_⟩
    · rcases enters with other | continuous
      · exact absurd fault_ other
      · rw [angle] at continuous
        cases continuous
    · rw [angle] at at_
      cases at_
      refine ⟨fun meets => ?_, fun _ => ⟨rfl, rfl, rfl, rfl⟩⟩
      rw [waits] at meets
      cases meets
  · have enters : ∀ target, ended.waveTarget p.content (position + 1) = some target → v.gen.meets target = true := by
      intro target at_
      obtain ⟨fault_, theta, angle, rfl⟩ :=
        State.waveTarget_eq_some (w := ended) (position := position + 1) found record at_
      exact eq_true_of_ne_false fun no => waits ⟨theta, fault_.symm, angle, no⟩
    obtain ⟨u, run, entered⟩ := leads enters
    have state : StateEntered v u k content t :=
      ⟨entered.state.generator, entered.state.synths, entered.state.channels⟩
    have notes : NotesHanded v u t := fun n => by
      rw [entered.clampNotes]
      exact handed n
    have inception : isFault → InceptionAt v u p.content content t := fun fault_ =>
      have at_ := entered.inception fault_.symm
      ⟨at_.inception, at_.compliance, at_.working⟩
    have none_ : ¬ isFault → u.shot.inception = s.shot.inception ∧ u.shot.working = s.shot.working := fun other =>
      entered.none_ (Ne.symm other)
    exact ⟨u, run, entered.framed, entered.faultEnd,
      fun _ => ⟨state, notes, entered.runState, entered.entries, inception, none_⟩, fun theta fault_ angle =>
      ⟨fun _ => ⟨state, notes, entered.runState, entered.entries, inception, none_⟩,
        fun no => absurd ⟨theta, fault_, angle, no⟩ waits⟩⟩

/-! ## The point-on-wave inception -/

section
variable {s : State} {t : Tick} {h k position theta : Nat} {p : TestPoint} {r : StateRecord} {stage : Stage}
variable {fault : Option Tick}

theorem exec_pointOnWaveInception (ahead : s.instantAhead t)
    (playing : s.run.state = .playing { stage := stage, fault := fault })
    (deferred : stage = .deferredFirst ∧ position = 0 ∨ stage = .deferred position)
    (active : s.activePoint = some (h, p)) (fault_ : p.content.faultPosition = position + 1)
    (found : p.content.states[position]? = some k) (record : s.states.at? k = some r)
    (angle : r.content.inception = .angle theta) :
    exec (.pointOnWaveInception t) s = .next (if (s.gen.arrive t).meets (phaseOf theta) then
      ((s.stepped t).handNotes t).enterPosition p (position + 1) t else s.stepped t) := by
  have place : s.run.state.deferred? = some (position + 1) := by
    rw [playing]
    rcases deferred with ⟨rfl, rfl⟩ | rfl <;> rfl
  refine congrArg Host.Outcome.next ((State.onInstant_of ahead ?_).trans ?_)
  · simp only [place, Option.isSome_some]
  · have place : (s.stepped t).run.state.deferred? = some (position + 1) := place
    have active : (s.stepped t).activePoint = some (h, p) := active
    have target : (s.stepped t).waveTarget p.content (position + 1) = some (phaseOf theta) :=
      State.waveTarget_angle found record fault_.symm angle
    simp only [State.incept, place, active, target]
    rfl

end

/-- Settles O42: the arc swept by the instant's step decides whether the fault state is entered. -/
theorem pointOnWaveInceptionEntersTheFaultState : Obligations.PointOnWaveInceptionEntersTheFaultState := by
  intro s t h k position theta p r stage fault ahead active playing deferred fault_ found record angle v content swept far
  have run := exec_pointOnWaveInception ahead playing deferred active fault_ found record angle
  have meets : v.gen.meets (phaseOf theta) = (decide (0 < far) && decide (far ≤ swept)) := rfl
  refine ⟨fun ⟨ahead_, within⟩ => ?_, fun no => ?_⟩
  · rw [if_pos (by rw [meets]; simp [ahead_, within])] at run
    have entered := State.enterPosition_entered (w := (s.stepped t).handNotes t) (p := p) (position := position + 1)
      (t := t) found record playing
    have handed : NotesHanded v ((s.stepped t).handNotes t) t := (State.handNotes_handed s.shot.faultEnd).arrived
    have at_ := entered.inception fault_.symm
    exact ⟨_, run, entered.frame, ⟨entered.state.generator, entered.state.synths, entered.state.channels⟩,
      fun n => by
        rw [entered.clampNotes]
        exact handed n,
      ⟨at_.inception, at_.compliance, at_.working⟩, entered.entries⟩
  · rw [if_neg (by rw [meets]; simp; omega)] at run
    exact run

end Sys2Proof.Machine

/-! The start of a shot (R54, R55, R78, R102, R115, R161). -/

namespace Sys2Proof.Machine

/-! ## The clearing at a start instant -/

/-- The state in which the first state is entered or deferred: table and shot record cleared, PLAYING (R54). -/
def State.atStart (s : State) (due : StartDue) (t : Tick) : State :=
  ((s.stepped t).clearForShot due t).setRun (s.run.state.play (.ready t))

/-- An entry cleared at a start instant (R102). -/
theorem clearedEntry_eq (q : Qualification) (t : Tick) : clearedEntry q t =
    match q with
    | .active => { operate := some t, standing := true, release := none, bounces := 0 }
    | .pendingOff _ _ => { operate := some t, standing := true, release := none, bounces := 0 }
    | .inactive => { operate := none, standing := false, release := none, bounces := 0 }
    | .pendingOn _ _ => { operate := none, standing := false, release := none, bounces := 0 } := by
  cases q <;> rfl

section
variable {s : State} {t : Tick} {due : StartDue}

/-- The operation table at a start instant: the inputs that stand are marked (R102). -/
theorem State.atStart_inputs (n : Inp) : (s.atStart due t).inputs.get n = { s.inputs.get n with entry :=
    match (s.inputs.get n).qualification with
    | .active => { operate := some t, standing := true, release := none, bounces := 0 }
    | .pendingOff _ _ => { operate := some t, standing := true, release := none, bounces := 0 }
    | .inactive => { operate := none, standing := false, release := none, bounces := 0 }
    | .pendingOn _ _ => { operate := none, standing := false, release := none, bounces := 0 } } := by
  show ((s.inputs.map fun i => { i with entry := clearedEntry i.qualification t }).get n) = _
  rw [PerInput.get_map, clearedEntry_eq]

theorem exec_shotStart {h : Nat} {p : TestPoint} (ahead : s.instantAhead t) (active : s.activePoint = some (h, p))
    (now : State.startDue { s with tick := t } t = due) (starts : due ≠ .no) :
    exec (.shotStart t) s = .next ((s.atStart due t).enterFirst p due t) := by
  refine congrArg Host.Outcome.next ((State.onInstant_of ahead ?_).trans ?_)
  · simp [now, starts]
  · have now : (s.stepped t).startDue t = due := now
    have active : (s.stepped t).activePoint = some (h, p) := active
    simp only [State.withActive, active, now]
    rfl

end

/-! ## The first state -/

section
variable {w : State} {p : TestPoint} {k : Nat} {r : StateRecord} {t : Tick} {due : StartDue}

theorem State.enterFirst_enters
    (enters : ∀ target, w.waveTarget p.content 1 = some target → w.startMeets due target = true) :
    w.enterFirst p due t = w.enterPosition p 1 t := by
  unfold State.enterFirst
  split
  · rename_i at_ _
    rw [if_pos (enters _ at_)]
  · rfl

theorem State.enterFirst_defers (found : p.content.states[1 - 1]? = some k) (record : w.states.at? k = some r)
    {target : Phase} (at_ : w.waveTarget p.content 1 = some target) (waits : w.startMeets due target = false) :
    w.enterFirst p due t = (w.tuneTo (p.playedContent 1 r.content)).setStage .deferredFirst := by
  simp only [State.enterFirst, at_, State.listed_eq found record, waits, Bool.false_eq_true, if_false]

theorem State.tuneTo_synths (c : StateContent) (ch : Chan) : (w.tuneTo (p.playedContent 1 c)).gen.synths.get ch =
    { w.gen.synths.get ch with
      frequency := (c.settings.get ch).frequency
      step := phaseStep (c.settings.get ch).frequency
      offset := phaseOf (c.settings.get ch).angle } := by
  obtain ⟨frequency, angle⟩ := TestPoint.playedContent_tuning (p := p) (c := c) (position := 1) ch
  simp only [State.tuneTo, PerChannel.get_of, Synth.tune, frequency, angle]

end

/-- Settles O40: the clearing at the start instant, then the first state entered or its entry deferred. -/
theorem shotStartEntersTheFirstState : Obligations.ShotStartEntersTheFirstState := by
  intro s t h k p r rest ahead active states record content isFault started
  have found : p.content.states[1 - 1]? = some k := by rw [states]; rfl
  have rule : ∀ (due : StartDue) (g : Generator) (fault : Option Tick) (meets : Phase → Prop),
      State.startDue { s with tick := t } t = due → due ≠ .no → (s.atStart due t).gen = g →
      s.run.state.play (.ready t) = .playing { stage := .ready t, fault := fault } →
      (∀ target, (s.atStart due t).startMeets due target = true ↔ meets target) →
      ∃ u, exec (.shotStart t) s = .next u ∧
        (∀ c, (u.gen.synths.get c).accumulator = (g.synths.get c).accumulator) ∧
        started { s with gen := g } u due.conditions fault meets := by
    intro due g fault meets now starts gen playing meets_iff
    let w := s.atStart due t
    have run := exec_shotStart ahead active now starts
    have playing : w.run.state = .playing { stage := .ready t, fault := fault } := playing
    subst gen
    by_cases waits : ∃ theta, isFault ∧ r.content.inception = .angle theta ∧ ¬ meets (phaseOf theta)
    · obtain ⟨theta, fault_, angle, waits⟩ := waits
      have target := State.waveTarget_angle (w := w) found record fault_.symm angle
      have defers : w.enterFirst p due t = { w.tuneTo content with
          run := { w.run with state := .playing { stage := .deferredFirst, fault := fault } } } := by
        rw [State.enterFirst_defers (w := w) found record target
          (Bool.eq_false_iff.2 fun yes => waits ((meets_iff _).1 yes))]
        have playing : (w.tuneTo content).run.state = .playing { stage := .ready t, fault := fault } := playing
        show (w.tuneTo content).setStage .deferredFirst = _
        simp only [State.setStage, playing]
        rfl
      refine ⟨_, run.trans (congrArg _ defers), fun c => ?_, rfl, State.atStart_inputs (due := due), rfl, rfl, rfl, rfl, rfl, rfl,
        fun enters => ?_, fun theta' _ at_ => ?_⟩
      · show ((w.tuneTo (p.playedContent 1 r.content)).gen.synths.get c).accumulator = _
        rw [State.tuneTo_synths]
      · rcases enters with other | continuous
        · exact absurd fault_ other
        · rw [angle] at continuous
          cases continuous
      · rw [angle] at at_
        cases at_
        exact ⟨fun yes => absurd yes waits, fun _ => ⟨rfl, rfl, rfl, State.tuneTo_synths r.content, rfl, rfl, rfl⟩⟩
    · have enters : ∀ target, w.waveTarget p.content 1 = some target → w.startMeets due target = true := by
        intro target at_
        obtain ⟨fault_, theta, angle, rfl⟩ := State.waveTarget_eq_some found record at_
        exact (meets_iff _).2 (not_not.1 fun no => waits ⟨theta, fault_.symm, angle, no⟩)
      have entered := State.enterPosition_entered (w := w) (t := t) found record playing
      have inputs := congrArg State.inputs entered.frame
      have inputs : (w.enterPosition p 1 t).inputs = w.inputs := inputs
      have state : StateEntered { s with gen := w.gen } (w.enterPosition p 1 t) k content t :=
        ⟨entered.state.generator, entered.state.synths, entered.state.channels⟩
      have inception : isFault → InceptionAt { s with gen := w.gen } (w.enterPosition p 1 t) p.content content t :=
        fun fault_ =>
          have at_ := entered.inception fault_.symm
          ⟨at_.inception, at_.compliance, at_.working⟩
      have none_ : ¬ isFault → _ := fun other => entered.none_ (Ne.symm other)
      refine ⟨_, run.trans (congrArg _ (State.enterFirst_enters enters)), fun c => ?_, ?_, fun n => ?_, ?_, ?_, ?_, ?_, ?_, ?_,
        fun _ => ⟨state, entered.runState, entered.entries, inception, none_⟩, fun theta fault_ angle => ⟨fun _ =>
          ⟨state, entered.runState, entered.entries, inception, none_⟩, fun no => absurd ⟨theta, fault_, angle, no⟩ waits⟩⟩
      · rw [entered.state.synths c]
      · rw [inputs]
        exact entered.framed
      · rw [inputs]
        exact State.atStart_inputs n
      all_goals
        rw [entered.shot]
        rfl
  refine ⟨fun due fault playing reached => ?_, fun wait start skew waiting computed kept reached => ?_⟩
  · obtain ⟨u, run, -, begun⟩ := rule .immediate (s.gen.arrive t) fault (fun target => (s.gen.arrive t).meets target = true)
      (by simp only [State.startDue, playing, reached, if_true]) nofun rfl (by rw [playing]; rfl) fun target => Iff.rfl
    exact ⟨u, run, begun⟩
  · obtain ⟨u, run, zero, begun⟩ := rule (.scheduled s.time.lock skew) ((s.gen.arrive t).zero t) none (fun target => target = 0)
      (by simp only [State.startDue, waiting, computed, kept, reached, if_true]) nofun rfl (by rw [waiting]; rfl)
      fun target => decide_eq_true_iff
    refine ⟨u, run, fun c => (zero c).trans ?_, begun⟩
    simp [Generator.zero]

end Sys2Proof.Machine

/-! The ends of shots: the verdict of a shot and the search procedure (R58, R116 to R126, R132 to R140). -/

namespace Sys2Proof.Machine

/-! ## The ordered decision -/

section
variable {f : Findings} {w : Working} {measured : Option Nat} {window : Nat}

theorem shotVerdict_prefault (prefault : f.prefault = true) : shotVerdict f w measured window = (.failUnwanted, false) :=
  if_pos prefault

theorem shotVerdict_doubt (noPrefault : f.prefault = false) (doubt : f.clamped = true ∨ f.compliance = true) :
    shotVerdict f w measured window = (.inconclusive, false) := by
  have doubt : (f.clamped || f.compliance) = true := Bool.or_eq_true_iff.2 doubt
  simp only [shotVerdict, noPrefault, doubt, Bool.false_eq_true, if_false, if_true]

theorem shotVerdict_clear (noPrefault : f.prefault = false) (noClamp : f.clamped = false)
    (compliant : f.compliance = false) : shotVerdict f w measured window = expectationVerdict w measured window := by
  simp only [shotVerdict, noPrefault, noClamp, compliant, Bool.or_self, Bool.false_eq_true, if_false]

/-- With no expected time a shot must not trip (R122). -/
theorem expectationVerdict_noTrip (noTrip : w = .noTrip ∨ ∃ m v, w = .curveBelow m v) :
    expectationVerdict w measured window = (if measured.isSome then .failUnwanted else .pass, false) := by
  rcases noTrip with rfl | ⟨m, v, rfl⟩ <;> cases measured <;> rfl

variable {e : Expected} (expected : w.expected? = some e)
include expected

theorem expectationVerdict_measured (time : Nat) : expectationVerdict w (some time) window =
    (if time < e.low then .failEarly else if e.high < time then .failLate else .pass, false) := by
  simp only [expectationVerdict, expected]
  split
  · rfl
  · split <;> rfl

theorem expectationVerdict_unmeasured : expectationVerdict w none window =
    (if e.high ≤ window then .failNoTrip else .inconclusive, decide (window < e.high)) := by
  simp only [expectationVerdict, expected]
  by_cases whole : e.high ≤ window
  · rw [if_pos whole, if_pos whole, decide_eq_false (Nat.not_lt.2 whole)]
  · rw [if_neg whole, if_neg whole, decide_eq_true (Nat.lt_of_not_le whole)]

end

/-! ## The end of a shot -/

/-- Rest and REST after a shot that has been judged (R58). -/
def State.restedAt (k : State) (t : Tick) (fault : Option Tick) : State := (k.toRest.applyPending).enterRest t fault

section
variable {s v k : State} {t : Tick} {fault : Option Tick}

theorem State.restedAt_silenced (gen : k.gen = v.gen) : Silenced v (k.restedAt t fault) := fun c => by
  have silent := k.toRest_silenced c
  rw [gen] at silent
  exact silent

theorem State.restedAt_pendingApplied (channels : k.channels = s.channels) (inputs : k.inputs = s.inputs) :
    PendingApplied s (k.restedAt t fault) :=
  have applied := State.rested_pendingApplied channels inputs
  ⟨applied.channels, applied.inputs⟩

theorem State.restedAt_unfitRaises (channels : k.channels = s.channels) (cause : k.port.channel = s.port.channel) :
    UnfitRaises s (k.restedAt t fault) := State.rested_unfitRaises channels cause

variable {h position : Nat} {p : TestPoint}

/-- A SHOT test point's result is posted at the end of its shot. -/
theorem State.endShot_shot {x : Expectation} {a b : Nat} (kind : p.content.kind = .shot x a b) :
    k.endShot h p t =
      ((k.handNotes t).postActive h ((k.handNotes t).shotResult p.content t none)).restedAt t none := by
  simp only [State.endShot, kind]
  rfl

/-- A search that goes on stays ACTIVE, with the fault reported (R136, R144). -/
theorem State.endShot_goesOn {params : SearchParams} {c d : SearchContext} (kind : p.content.kind = .search params)
    (context : p.context = some c) (active : k.run.active = some h)
    (next : searchStep params c (k.handNotes t).shot.tripped
      ((k.handNotes t).searchFindings p.content.monitored t).any = .goOn d) :
    k.endShot h p t =
      ((k.handNotes t).changePoint h fun q => { q with context := some d }).restedAt t k.run.state.fault? := by
  have judged : (k.handNotes t).endSearchShot h p params t =
      (k.handNotes t).changePoint h fun q => { q with context := some d } := by
    simp only [State.endSearchShot, context, Option.getD_some, next]
  have stays : ((k.handNotes t).changePoint h fun q => { q with context := some d }).run.active.isSome = true := by
    show k.run.active.isSome = true
    rw [active]
    rfl
  simp only [State.endShot, kind, judged, stays, if_true]
  rfl

/-- A search that finishes is posted. -/
theorem State.endShot_finishes {params : SearchParams} {c d : SearchContext} {verdict : Verdict}
    {boundary : Option Nat} (kind : p.content.kind = .search params) (context : p.context = some c)
    (next : searchStep params c (k.handNotes t).shot.tripped
      ((k.handNotes t).searchFindings p.content.monitored t).any = .finish verdict d boundary) :
    k.endShot h p t = ((k.handNotes t).postActive h (searchResult verdict none d boundary
      ((k.handNotes t).searchFindings p.content.monitored t) (k.handNotes t).operatedList)).restedAt t none := by
  have judged : (k.handNotes t).endSearchShot h p params t = (k.handNotes t).postActive h (searchResult verdict none d
      boundary ((k.handNotes t).searchFindings p.content.monitored t) (k.handNotes t).operatedList) := by
    simp only [State.endSearchShot, context, Option.getD_some, next]
  simp only [State.endShot, kind, judged]
  rfl

/-- What the result of a completed shot holds of its verdict (R121, R122). -/
theorem State.shotResult_decided {x : Tick} {w : Working} (c : PointContent) (inception : k.shot.inception = some x)
    (working : k.shot.working = some w) :
    let r := k.shotResult c t none
    let decided := shotVerdict (k.findings c.monitored (k.shot.tripInstant.getD t)) w k.shot.tripTime (Tick.elapsed x t)
    r.verdict = decided.1 ∧ r.flags.shortWindow = decided.2 := by
  unfold State.shotResult
  rw [k.shot.judgedEnd_eq, k.shot.measured_eq, inception, working]
  exact ⟨rfl, rfl⟩

end

/-- Settles O44: the result formed on the notes handed over and its ordered decision, then rest and REST. -/
theorem shotEndPostsTheVerdict : Obligations.ShotEndPostsTheVerdict := by
  intro s t i h position p x a b entry fault snapshot inception w ahead active kind playing inPlay last incepted working
    ends v measured judged
  let k := (s.ended t p.content position).handNotes t
  let result := k.shotResult p.content t none
  let posted := k.postActive h result
  have run : exec i s = .next (posted.restedAt t none) :=
    (exec_endsAt ahead active playing inPlay ends).trans (congrArg Host.Outcome.next
      ((State.endState_last last).trans (State.endShot_shot kind)))
  let found := k.findings p.content.monitored judged
  let decided := shotVerdict found w measured (Tick.elapsed inception t)
  obtain ⟨verdict, short⟩ := State.shotResult_decided (k := k) (t := t) p.content incepted working
  have decide_ : ∀ d b, decided = (d, b) → result.verdict = d ∧ result.flags.shortWindow = b := fun d b is =>
    ⟨verdict.trans (congrArg Prod.fst is), short.trans (congrArg Prod.snd is)⟩
  have judgedEnd : k.shot.judgedEnd t = judged := ShotRecord.judgedEnd_eq _ t
  have same : k.findings p.content.monitored (k.shot.judgedEnd t) = found := by rw [judgedEnd]
  have prefault_ : result.flags.prefault = found.prefault := congrArg Findings.prefault same
  have clamped_ : result.flags.clamped = found.clamped := congrArg Findings.clamped same
  have compliance_ : result.flags.compliance = found.compliance := congrArg Findings.compliance same
  obtain ⟨prefault, clamped, compliance⟩ := s.findings_endedAt t
    (if position = p.content.faultPosition then some t else s.shot.faultEnd) p.content judged
  simp only [incepted, Option.some.injEq, exists_eq_left'] at clamped compliance
  have measured_ : result.measured = measured.map (fun time => min time 4294967295) :=
    congrArg (Option.map (saturate 4294967295)) (ShotRecord.measured_eq _)
  have values : ∀ {α : Type} (g : Working → Option α), k.shot.working.bind g = g w := fun g =>
    congrArg (Option.bind · g) working
  have handed : NotesHanded v k t := (State.handNotes_handed _).arrived
  refine ⟨_, p.post result, _, run, rfl, State.restedAt_silenced rfl, State.restedAt_pendingApplied rfl rfl,
    State.restedAt_unfitRaises rfl rfl, handed, State.postActive_here (s := k) active result, TestPoint.post_posted result p,
    State.postActive_others k h result, rfl, rfl, values _, values _, values _, rfl, ShotRecord.inHoldover_iff s.shot,
    measured_, State.operatedList_endedAt _, ?_, ?_, ?_, fun early => ?_, fun noPrefault doubt => ?_,
    fun noPrefault noClamp compliant => ?_⟩
  · exact (Eq.to_iff (congrArg (· = true) prefault_)).trans prefault
  · exact (Eq.to_iff (congrArg (· = true) clamped_)).trans clamped
  · exact (Eq.to_iff (congrArg (· = true) compliance_)).trans compliance
  · exact decide_ _ _ (shotVerdict_prefault (prefault_.symm.trans early))
  · exact decide_ _ _ (shotVerdict_doubt (prefault_.symm.trans noPrefault)
      (doubt.imp clamped_.symm.trans compliance_.symm.trans))
  · have clear : decided = expectationVerdict w measured (Tick.elapsed inception t) :=
      shotVerdict_clear (prefault_.symm.trans noPrefault) (clamped_.symm.trans noClamp) (compliance_.symm.trans compliant)
    refine ⟨fun unjudged => ?_, fun noTrip => ?_, fun e expected => ⟨fun time is => ?_, fun none_ => ?_⟩⟩
    · exact decide_ _ _ (clear.trans (by rw [unjudged]; rfl))
    · exact (decide_ _ _ (clear.trans (expectationVerdict_noTrip noTrip))).symm
    · exact (decide_ _ _ (clear.trans (by rw [is]; exact expectationVerdict_measured expected time))).symm
    · rw [none_] at clear
      obtain ⟨verdict, short⟩ := decide_ _ _ (clear.trans (expectationVerdict_unmeasured expected))
      exact ⟨(Eq.to_iff (congrArg (· = true) short)).trans decide_eq_true_iff, verdict⟩

/-- Settles O45: the findings over the interval judged to the trip or to the shot end, given to the search procedure,
and each of its two outcomes. -/
theorem searchShotEndsFeedTheProcedure : Obligations.SearchShotEndsFeedTheProcedure := by
  intro s t i h position p params c entry fault snapshot inception ahead active kind context playing inPlay last incepted
    ends v faultEnd
  let k := (s.ended t p.content position).handNotes t
  have run := (exec_endsAt ahead active playing inPlay ends).trans
    (congrArg Host.Outcome.next (State.endState_last last))
  have named : s.run.active = some h := ((s.activePoint_eq_some h p).1 active).1
  have handed : NotesHanded v k t := (State.handNotes_handed _).arrived
  let judged := if k.shot.tripped then s.shot.tripInstant.getD t else t
  let found := k.searchFindings p.content.monitored t
  have judgedEnd : (if k.shot.tripped then k.shot.judgedEnd t else t) = judged :=
    if_congr Iff.rfl (ShotRecord.judgedEnd_eq _ t) rfl
  have found_ : found = k.findings p.content.monitored judged := by
    rw [← judgedEnd]
    rfl
  have tripped := k.shot.tripped_iff inception incepted
  have findings := s.findings_endedAt t faultEnd p.content judged
  simp only [incepted, Option.some.injEq, exists_eq_left'] at findings
  have findings : (found.prefault = true ↔ s.OperatedEarly p.content) ∧
      (found.clamped = true ↔ s.ClampedIn inception judged) ∧
      (found.compliance = true ↔ s.shot.LostIn inception judged) := by
    rw [found_]
    exact findings
  have step : ∀ next, searchStep params c k.shot.tripped found.any = next →
      searchStep params c k.shot.tripped (found.prefault || found.clamped || found.compliance) = next := fun _ is => is
  cases next : searchStep params c k.shot.tripped found.any with
  | goOn d =>
    have kept : (s.ended t p.content position).run.state.fault? = fault := congrArg RunState.fault? playing
    have result : (s.ended t p.content position).endShot h p t =
        (k.changePoint h fun q => { q with context := some d }).restedAt t
          (if s.run.active = none then none else fault) := by
      rw [State.endShot_goesOn (k := s.ended t p.content position) kind context named next, kept,
        if_neg (by simp [named])]
    have present := ((s.activePoint_eq_some h p).1 active).2
    refine ⟨_, { p with context := some d }, k.shot.tripped, found.prefault, found.clamped, found.compliance,
      run.trans (congrArg _ result), rfl, State.restedAt_silenced rfl, State.restedAt_pendingApplied rfl rfl,
      State.restedAt_unfitRaises rfl rfl, handed, Table.at?_change_here present _, Table.at?_change_others s.points _,
      tripped, findings, ?_⟩
    rw [step _ next]
    exact ⟨rfl, rfl⟩
  | finish verdict d boundary =>
    have result := State.endShot_finishes (k := s.ended t p.content position) (h := h) kind context next
    let posted := searchResult verdict none d boundary found k.operatedList
    refine ⟨_, p.post posted, k.shot.tripped, found.prefault, found.clamped, found.compliance,
      run.trans (congrArg _ result), rfl, State.restedAt_silenced rfl, State.restedAt_pendingApplied rfl rfl,
      State.restedAt_unfitRaises rfl rfl, handed, State.postActive_here (s := k) active posted,
      State.postActive_others k h posted, tripped, findings, ?_⟩
    rw [step _ next]
    exact ⟨rfl, _, TestPoint.post_posted posted p, rfl, rfl, rfl, rfl, rfl, rfl, rfl, rfl, rfl, rfl, rfl, rfl,
      State.operatedList_endedAt _, rfl⟩

end Sys2Proof.Machine
